-- ==== Sys2Proof/Word.lean ====
section
/-! DEFINITION. The word types of the Murwen 460: bytes, epoch numbers, station numbers and channel indices. -/

namespace Sys2Proof

/-- One byte of a frame, a record or an image (R204). -/
abbrev Byte := BitVec 8

/-- An epoch number: a 32-bit label that wraps (R3). -/
abbrev EpochNumber := BitVec 32

/-- A set of the sixteen conditions or notices, one bit each (section 12.2). -/
abbrev ConditionSet := BitVec 16

/-- A set of the four summary bits: bit 0 ATTENDED, 1 ALERT, 2 DOUBT, 3 JOINING (section 12.2). -/
abbrev SummarySet := BitVec 4

/-- A station number 1 to 8, held as the number less one, so that every value names a station. -/
abbrev Station := Fin 8

/-- A channel index 0 to 3. -/
abbrev Channel := Fin 4

/-- The number 1 to 8 that a station carries on every port. -/
def stationNumber (k : Station) : Nat := k.val + 1

/-- The largest value of a 32-bit count (R3, R17, R161). -/
def maxCount32 : Nat := 0xFFFFFFFF

end Sys2Proof
end

