-- ==== Sys2Proof/Syntax.lean ====
section
/-! DEFINITION. The commands of the block: one constructor per row of spec/opcode_table.json, with what the outside supplies at that
event as its operands. A position that the manual fixes is no operand; an instant that it leaves to the outside is a tick count of
the epoch in progress. -/

namespace Sys2Proof

/-- The pins and the sensor that a start samples in its third phase (R201). -/
structure StartSamples where
  /-- the HEAD pin reads high (R64) -/
  head : Bool
  /-- the EV0 pin reads high (R115) -/
  ev0 : Bool
  /-- the EV1 pin reads high (R115) -/
  ev1 : Bool
  /-- the oscillator temperature sensor, in m°C (R21) -/
  oscTemp : Int
deriving DecidableEq, Repr

/-- The operations and events of the table. -/
inductive Instr where
  /-- OWN_BOUNDARY (R1): the count reaches the length fixed for the epoch; the oscillator temperature reads `oscTemp`. -/
  | ownBoundary (oscTemp : Int)
  /-- REFERENCE_EDGE (R4) at `tick`; `oscTemp` is read and `others` (the MARK pair is asserted by other stations) is tested if the
  edge is stepped to. -/
  | referenceEdge (tick : Nat) (oscTemp : Int) (others : Bool)
  /-- REFERENCE_WINDOW_END (R8), 1,000 ticks after a boundary. -/
  | referenceWindowEnd
  /-- MARK_RISE (R27) at `tick`. -/
  | markRise (tick : Nat)
  /-- LEADER_PULSE (R27): the pair releases at `tick`, within 2 ms of the rise; `oscTemp` is read if the pulse is stepped to. -/
  | leaderPulse (tick : Nat) (oscTemp : Int)
  /-- FALLBACK_PULSE (R27), 2 ms after the rise; `oscTemp` and `others` as for a reference edge. -/
  | fallbackPulse (oscTemp : Int) (others : Bool)
  /-- MARK_ABSENT (R29): the watch closes at +12 ms. -/
  | markAbsent
  /-- LEADER_MARK_END (R30), 1 ms after the boundary. -/
  | leaderMarkEnd
  /-- FALLBACK_MARK (R33): the +5 ms position. -/
  | fallbackMark
  /-- FALLBACK_MARK_END (R33), 3 ms after the rise of the own fallback mark. -/
  | fallbackMarkEnd
  /-- OWN_SLOT_START (R48): the start of the slot of the own number. -/
  | ownSlotStart
  /-- SLOT_START (R53): the start of the slot `slot`. -/
  | slotStart (slot : Station)
  /-- HUNT_TIMEOUT (R53), 5 ms after the start of the slot being hunted. -/
  | huntTimeout
  /-- FRAMING_FAULT (R54): `cells` are the levels of the DATA pair at the centres of the cells read since the last command, the last of
  them the one that shows the fault. -/
  | framingFault (cells : List Bool)
  /-- FRAME_RECEIVED (R55): `cells` are the levels at the centres of the cells read since the last command, up to the last expected one. -/
  | frameReceived (cells : List Bool)
  /-- SLOT_END (R56). -/
  | slotEnd
  /-- TRANSMISSION_COMPLETE (R49): the last cell of the own frame reads back matching. -/
  | transmissionComplete
  /-- COLLIDED (R49): the read-back of cell `cell` of the own frame does not match. -/
  | collided (cell : Nat)
  /-- SUMMARY_WINDOW (R59): 830 ms; other stations assert the DATA pair at that instant or, if it is not said, do not. -/
  | summaryWindow (others : Bool := false)
  /-- SUMMARY_OR_READ (R61): what other stations drive at the centres of cells 1 to 4, and whether they assert the stop cell's. -/
  | summaryOrRead (bits : SummarySet) (stopAsserted : Bool)
  /-- SUMMARY_HUNT_END (R61): 832 ms. -/
  | summaryHuntEnd
  /-- ROW_CLOSE (R87): 900 ms. -/
  | rowClose
  /-- CHAIN_WORD_SEND (R65): 950 ms. -/
  | chainWordSend
  /-- CHAIN_WORD_RECEIVED (R66, R67): CHIN rises at `rise`, against the own boundary of the epoch in progress, and reads `asserted` at the
  centre of the start cell; `cells` are its levels at the centres of the cells after it that have been read since. While a word is being
  read, `cells` carry it on, and the other two operands say nothing. -/
  | chainWordReceived (rise : Int) (asserted : Bool) (cells : List Bool)
  /-- CONVERSION (R103): channel `channel` makes conversion `k` of the epoch; the converter delivers `raw`, a signed 24-bit count. -/
  | conversion (channel : Channel) (k : Fin 64) (raw : BitVec 24)
  /-- FILTERED_LEVEL_CHANGE (R115): the pin of input `input` has held the level `high` for 5 ms. -/
  | filteredLevelChange (input : Fin 2) (high : Bool)
  /-- ARCHIVE_WRITE_START (R163). -/
  | archiveWriteStart
  /-- ARCHIVE_WRITE_COMPLETE (R166). -/
  | archiveWriteComplete
  /-- TRANSACTION_BEGIN (R177): select goes low. -/
  | transactionBegin
  /-- UNKNOWN_COMMAND (R177): the command byte is `code`. -/
  | unknownCommand (code : Byte)
  /-- TRANSACTION_END (R179): select goes high; `edges` rising edges of clock came since it went low. -/
  | transactionEnd (edges : Nat)
  /-- READ STATUS (R181). -/
  | readStatus
  /-- STATUS_RESULT_CLOCKED (R180): the status image's last byte has been clocked out in full. -/
  | statusResultClocked
  /-- SEEK (R171): `bits` are the argument bits sampled on data in since the last command, in the order sampled (R176, R177). -/
  | seek (bits : List Bool)
  /-- READ ENTRIES (R172). -/
  | readEntries
  /-- ENTRY_IMAGE (R172): `bytes` bytes have been clocked out since the last command, of the lead bytes and of one entry image, which is
  formed when its first byte is due and done at its last; if it is not said, as many as both have. -/
  | entryImage (bytes : Nat := 63)
  /-- RELEASE (R169); `bits` as for SEEK. -/
  | release (bits : List Bool)
  /-- READ ROW (R90); `bits` as for SEEK. -/
  | readRow (bits : List Bool)
  /-- READ ROSTER (R182). -/
  | readRoster
  /-- READ CHANNEL STATE (R183). -/
  | readChannelState
  /-- READ DRIFT TABLE (R182). -/
  | readDriftTable
  /-- READ SETUP (R182). -/
  | readSetup
  /-- CLEAR NOTICES (R189); `bits` as for SEEK. -/
  | clearNotices (bits : List Bool)
  /-- SET LABEL (R19); `bits` as for SEEK. -/
  | setLabel (bits : List Bool)
  /-- CLEAR DRIFT TABLE (R23). -/
  | clearDriftTable
  /-- PIPELINE RESTART (R130). -/
  | pipelineRestart
  /-- STATION RESTART (R186). -/
  | stationRestart
  /-- PROGRAM SETUP (R198): the SETUP-ENABLE pin reads `enable`; `bits` as for SEEK. -/
  | programSetup (enable : Bool) (bits : List Bool)
  /-- SETUP_WRITE_COMPLETE (R199). -/
  | setupWriteComplete
  /-- POWER_ON (R200). -/
  | powerOn
  /-- POWER_LOSS (R167). -/
  | powerLoss
  /-- RESET_ASSERT (R200). -/
  | resetAssert
  /-- RESET_RELEASE (R200). -/
  | resetRelease
  /-- RESTART_START (R186): the start that STATION RESTART ordered begins. -/
  | restartStart
  /-- START_COMPLETE (R201): the samples taken, every block takes its start values and the first own boundary occurs. -/
  | startComplete (samples : StartSamples)
  /-- MARK_PAIR_RELEASE (R27): the pair releases after a fallback pulse. -/
  | markPairRelease
  /-- FRAME_FIRST_RISE (R53): the DATA pair rises at `tick`, and at the centre of the start cell it reads `asserted`. -/
  | frameFirstRise (tick : Nat) (asserted : Bool)
  /-- SUMMARY_WINDOW_RISE (R61): the DATA pair rises at `tick`, and at the centre of the start cell other stations assert it or not. -/
  | summaryWindowRise (tick : Nat) (asserted : Bool)
  /-- SUMMARY_WINDOW_END (R59). -/
  | summaryWindowEnd
  /-- CHAIN_WORD_END (R65). -/
  | chainWordEnd
deriving DecidableEq, Repr

end Sys2Proof
end

