-- ==== Sys2Proof/Decode.lean ====
section
/-! DEFINITION. The command that a word spells by the bits of spec/opcode_table.json. No row of this block's table gives bits, so no
word spells a command (log 1). -/

namespace Sys2Proof

/-- No row of the table has a fixed bit or a field, so every word is refused. -/
def decodeTableWord (_nbits _w : Nat) : Option Instr := none

end Sys2Proof
end

