-- ==== Sys2Proof/Config.lean ====
section
/-! DEFINITION. What the manual fixes for every part (positions in the epoch, sizes) and the free values: what it leaves open. -/

namespace Sys2Proof.Config

/-- Nominal length of an epoch in ticks (R2). -/
@[simp] abbrev nominalEpoch : Int := 10000000

/-- Half of the nominal epoch: where a phase folds to the next boundary (R4). -/
@[simp] abbrev foldPoint : Int := 5000000

/-- Limit of the frequency correction f, in ppb (R2). -/
@[simp] abbrev maxCorrection : Int := 10000

/-- Reach of the reference window on either side of a boundary, in ticks (R4). -/
@[simp] abbrev referenceReach : Int := 1000

/-- Width that tells a leader pulse from a fallback pulse, in ticks: 2 ms (R27). -/
@[simp] abbrev pulseThreshold : Int := 20000

/-- The acceptance span starts 2 ms before the boundary (R28). -/
@[simp] abbrev spanStart : Int := -20000

/-- The acceptance span ends, exclusively, 5 ms after the boundary (R28). -/
@[simp] abbrev spanEnd : Int := 50000

/-- A fallback mark rises 5 ms after the boundary it marks (R27, R33). -/
@[simp] abbrev fallbackDelay : Int := 50000

/-- The watch closes at +12 ms (R28). -/
@[simp] abbrev watchClose : Nat := 120000

/-- A leader mark is released 1 ms after its boundary (R30). -/
@[simp] abbrev leaderMarkEnd : Nat := 10000

/-- The position of the fallback mark, +5 ms (R33). -/
@[simp] abbrev fallbackMark : Nat := 50000

/-- A fallback mark is 3 ms wide (R33). -/
@[simp] abbrev fallbackMarkEnd : Nat := 80000

/-- Slot k (k = 1 to 8) begins at 20 + 100 × (k − 1) ms (R47). -/
@[simp] abbrev slotStart (k : Station) : Nat := 200000 + 1000000 * k.val

/-- A slot lasts 90 ms (R47). -/
@[simp] abbrev slotLength : Nat := 900000

/-- The own frame begins 0.5 ms after the slot start (R48). -/
@[simp] abbrev frameDelay : Nat := 5000

/-- A receiver hunts for 5 ms from the slot start (R53). -/
@[simp] abbrev huntLength : Nat := 50000

/-- The summary window begins at 830 ms (R59). -/
@[simp] abbrev summaryWindow : Nat := 8300000

/-- The station's drive of the summary window ends 6,250 ticks after its start (R59). -/
@[simp] abbrev summaryWindowEnd : Nat := 8306250

/-- The hunt for the window's rise runs from 828 ms up to 832 ms (R61). -/
@[simp] abbrev summaryHuntStart : Nat := 8280000

/-- End of the hunt for the window's rise (R61). -/
@[simp] abbrev summaryHuntEnd : Nat := 8320000

/-- An open row closes at 900 ms (R87). -/
@[simp] abbrev rowClose : Nat := 9000000

/-- The chain word is sent from 950 ms (R65). -/
@[simp] abbrev chainWord : Nat := 9500000

/-- Conversion k is made at k × 156,250 ticks (R103). -/
@[simp] abbrev conversionStep : Nat := 156250

/-- Entry slots of the archive (R158). -/
@[simp] abbrev archiveSlots : Nat := 8192

/-- Formed entries the write queue holds (R162). -/
@[simp] abbrev queueLength : Nat := 4

/-- Bytes of an entry image (section 12.5). -/
@[simp] abbrev entryImageLength : Nat := 61

/-- Bytes of the setup record with its check word (section 12.6). -/
@[simp] abbrev setupLength : Nat := 1004

/-- FREE VALUE (R170). The read status reported for an entry word with errors in three bits or more, by a count of such reads;
the rule allows any of the three, so the value is taken modulo 3. No body: nothing can be proved of it. -/
opaque freeWordStatus : Nat → Nat

/-- FREE VALUE (R170). What such a word reads as, by the same count. No body: nothing can be proved of it. -/
opaque freeWordValue : Nat → BitVec 64

end Sys2Proof.Config
end

