-- ==== Sys2Proof/Machine/State.lean ====
section
/-! DEFINITION. The state of the station, block by block, as plain data, and State.reset. -/

namespace Sys2Proof.Machine

/-- Reasons a command stops the machine: none. Whatever the manual calls a fault is an effect on State. -/
inductive Fault where
deriving DecidableEq, Repr

/-- Reasons a command is refused. -/
inductive Refusal where
  /-- Raised by an arm of exec whose command has no meaning yet; safe. No arm raises it. -/
  | notModelled (mnemonic : String)
deriving DecidableEq, Repr

/-! ### Names with codes (section 12.2) -/

/-- Time states (R10). -/
inductive TimeState where
  | free | refAcquire | locked | followAcquire | following | holdover
deriving DecidableEq, Repr

/-- Membership states (section 4.3). -/
inductive Membership where
  | unnumbered | joining | member | conflict | halted
deriving DecidableEq, Repr

/-- Channel kinds (R102). -/
inductive ChannelKind where
  | fieldX | fieldY | fieldZ | fieldF | temp | off
deriving DecidableEq, Repr

/-- Qualities of a channel entry (R95). -/
inductive Quality where
  | good | uncorrected | staleTemp | held | clipped | warming | fault
deriving DecidableEq, Repr

/-- Mark kinds of a row (R35). -/
inductive MarkKind where
  | none | leader | fallback
deriving DecidableEq, Repr

/-- Cell states (R86). -/
inductive CellState where
  | empty | received | damaged | collided | aborted
deriving DecidableEq, Repr

/-- Damage kinds (R54 to R56). -/
inductive DamageKind where
  | framing | length | check | slot | format | unfinished
deriving DecidableEq, Repr

/-- Roster presence (R79). -/
inductive Presence where
  | unseen | present | missed | gone
deriving DecidableEq, Repr

/-- Last results (R180). -/
inductive PortResult where
  | none | done | busy | unknownCommand | badArgument | refused | cutShort
deriving DecidableEq, Repr

/-- Read status of an entry image (R170, R172). -/
inductive ReadStatus where
  | none | clean | corrected | damaged | inWrite
deriving DecidableEq, Repr

/-- Freeze causes (R142). -/
inductive Freeze where
  | none | stale | attended
deriving DecidableEq, Repr

/-- Correction markings (R150). -/
inductive CorrMark where
  | none | uncorrected | staleTemp
deriving DecidableEq, Repr

/-- The one marking of a stage-1 output or an epoch value (R124, R126). -/
inductive Mark where
  | none | held | clipped | fault
deriving DecidableEq, Repr

/-- Sign of a run (R107). -/
inductive RunSign where
  | none | positive | negative
deriving DecidableEq, Repr

/-- Functions of an event input (R115). -/
inductive InputFunction where
  | off | attend | marker
deriving DecidableEq, Repr

/-- What the mark unit drives on the MARK pair (section 2.2, 2.3). -/
inductive MarkDrive where
  | released | leader | fallback
deriving DecidableEq, Repr

/-- Transaction states (R177). -/
inductive Transaction where
  | idle | command | arguments | response | ignoring
deriving DecidableEq, Repr

/-- The fifteen commands of the readout port (section 12.4). -/
inductive PortCommand where
  | readStatus | seek | readEntries | release | readRow | readRoster | readChannelState | readDriftTable | readSetup
  | clearNotices | setLabel | clearDriftTable | pipelineRestart | stationRestart | programSetup
deriving DecidableEq, Repr

/-- Port holds (R187). -/
inductive PortHold where
  | none | setupWrite | restartWait
deriving DecidableEq, Repr

/-- Where the station is between power and work (R200, R201): without supply; a start begun and held by the RESET pin; a start
under way, its memories read; at work. -/
inductive Phase where
  | off | held | starting | running
deriving DecidableEq, Repr

/-- What numbered the epoch in progress (R19). -/
inductive NumberFrom where
  | counting | label | relabel
deriving DecidableEq, Repr

/-! ### Settings in force (R193 to R196) -/

/-- A temperature source or a field-check reference (R134, R151). -/
inductive Source where
  | none
  | localChannel (channel : Channel)
  | peer (station : Station) (channel : Channel)
deriving DecidableEq, Repr

/-- One row of a bin table (R134). -/
structure BinRow where
  edge : Int
  offset : Int
  scale : Int
deriving DecidableEq, Repr

/-- A channel setup in force; `glideLength` is none in STEP mode. -/
structure ChannelSetup where
  kind : ChannelKind
  weight : Nat
  biasUnit : Nat
  threshold : Nat
  gain : Int
  offset : Int
  source : Source
  rows : List BinRow
  hysteresis : Nat
  glideLength : Option Nat
  staleLimit : Nat
  startBin : Nat
deriving DecidableEq, Repr

/-- Stage settings in force after the checks of R131. -/
structure StageSettings where
  mean : Bool
  table1 : List Int
  table2 : List Int
deriving DecidableEq, Repr

/-- Settings of an event input (R115). -/
structure InputSetup where
  function : InputFunction
  assertedLow : Bool
deriving DecidableEq, Repr

/-- The field-check setup (R151). -/
structure CheckSetup where
  reference : Source
  expected : Int
  tolerance : Int
  count : Nat
deriving DecidableEq, Repr

/-- Every setting in force since the last start, with the two shares of SETUP_FAULT (R197). -/
structure Setup where
  rejected : Bool
  fixedNumber : Option Station
  referenceEnable : Bool
  holdoverHours : Nat
  keepNewest : Bool
  noticeMask : ConditionSet
  channels : Vector ChannelSetup 4
  stage : Option StageSettings
  inputs : Vector InputSetup 2
  check : CheckSetup
  recordFault : Bool
  tableFault : Bool
deriving DecidableEq, Repr

/-- The setup store: the stored record and the record being written (section 11). -/
structure SetupStore where
  stored : List Byte
  writing : Option (List Byte)
deriving DecidableEq, Repr

/-! ### Retention memory -/

/-- A bin of the drift table (R21). -/
structure DriftBin where
  estimate : Int
  weight : Nat
deriving DecidableEq, Repr

/-- An entry word: what was written with its check code, and what the word holds now (R158, R170). The manual gives no form of the code;
the word as written stands in its place, so the code itself cannot be in error (log 16). -/
structure EntryWord where
  written : BitVec 64
  held : BitVec 64
deriving DecidableEq, Repr

/-- An occupied entry slot: its index, the sequence number in its directory place, and its words (R158). -/
structure Slot where
  index : Nat
  seq : Nat
  words : List EntryWord
deriving DecidableEq, Repr

/-- Retention memory: the drift table, the bias-step slots, and the archive's slots and pointer record (R158, R202). The slots
stand in ring order, oldest kept first. -/
structure Retention where
  drift : Vector DriftBin 16
  biasSlots : Vector (Option Int) 4
  slots : List Slot
  nextSeq : Nat
  newest : Nat
  oldestKept : Nat
  releasePoint : Nat
deriving DecidableEq, Repr

/-! ### Timebase and mark unit -/

/-- A number held for the next epoch, and whether a label gave it (R19, R20). -/
structure HeldNumber where
  number : EpochNumber
  byLabel : Bool
deriving DecidableEq, Repr

/-- The timebase unit (chapter 1). -/
structure Timebase where
  tick : Nat
  epochLength : Int
  f : Int
  phaseTerm : Int
  carry : Int
  epochNumber : EpochNumber
  epochsSinceStart : Nat
  held : Option HeldNumber
  numberFrom : NumberFrom
  lastMarkPhase : Option Int
  timeState : TimeState
  acquireCount : Nat
  firstEdgeTaken : Bool
  missCount : Nat
  leaderRank : Option Nat
  sourceAge : Nat
  pendingLabel : Option EpochNumber
  oscTemp : Int
  settleCount : Nat
  windowEdge : Bool
  nextWindowEdge : Bool
deriving DecidableEq, Repr

/-- A pulse on the MARK pair: its rise, against the own boundary of the epoch in progress, and whether it has been classified. -/
structure Pulse where
  rise : Int
  classified : Bool
deriving DecidableEq, Repr

/-- A watch (R28): not yet closed, whether it holds a mark taken, and whether a rise was seen from −2 ms up to +5 ms (R33). -/
structure Watch where
  isOpen : Bool
  taken : Bool
  riseSeen : Bool
deriving DecidableEq, Repr

/-- The mark unit (chapter 2). `lastRise` is the latest rise of the pair, against the own boundary of the epoch in progress; a step's watch
looks back to it (R28, R33). -/
structure MarkUnit where
  pulse : Option Pulse
  lastRise : Option Int
  watch : Watch
  nextWatch : Watch
  drive : MarkDrive
  led : Bool
  contention : Bool
  fallback : Bool
  disagreement : Bool
  currentLeader : Option Station
  nextLeader : Option Station
  leaderless : Nat
deriving DecidableEq, Repr

/-! ### Reports, rows and the data line unit -/

/-- The extra fields of a vector entry (R93). -/
structure VectorFields where
  bias : Int
  bin : Nat
  gliding : Bool
deriving DecidableEq, Repr

/-- A channel entry of a report (R93). -/
structure ChannelEntry where
  index : Channel
  kind : ChannelKind
  quality : Quality
  value : Option Int
  vec : Option VectorFields
deriving DecidableEq, Repr

/-- A ΔF value with its reference (R96). -/
structure DeltaF where
  value : Int
  station : Nat
  channel : Channel
deriving DecidableEq, Repr

/-- An epoch report (R92). The format version is 1 and the entry count is the number of entries. -/
structure Report where
  station : Nat
  epoch : EpochNumber
  timeState : TimeState
  rank : Nat
  led : Bool
  sourceAge : Nat
  markPhase : Int
  conditions : ConditionSet
  entries : List ChannelEntry
  deltaF : Option DeltaF
deriving DecidableEq, Repr

/-- A cell of a row (R86). `own` says that the report is the station's own, as built. -/
structure Cell where
  state : CellState
  damage : Option DamageKind
  report : Option Report
  own : Bool
deriving DecidableEq, Repr

/-- A row of the epoch table (R84). -/
structure Row where
  epoch : EpochNumber
  leader : Option Station
  markKind : MarkKind
  markPhase : Option Int
  summaryOr : SummarySet
  cells : Vector Cell 8
  isOpen : Bool
  cut : Bool
deriving DecidableEq, Repr

/-- The epoch table: its rows, the most recently opened first, and the early mark record (R83, R84). -/
structure EpochTable where
  rows : List Row
  early : Option (MarkKind × Int)
deriving DecidableEq, Repr

/-- The own transmission: the built report and the slot it is sent in (R48). -/
structure Transmission where
  report : Report
  slot : Station
deriving DecidableEq, Repr

/-- Receive states of a slot (R53). -/
inductive RxState where
  | hunting | receiving | done
deriving DecidableEq, Repr

/-- The reception of the slot in progress (R47, R53, R54): the bytes so far, and the cells read of the byte in progress. In the own slot it
is DONE (log 35). -/
structure Reception where
  slot : Station
  state : RxState
  rise : Nat
  bytes : List Byte
  cells : List Bool
  expected : Option Nat
deriving DecidableEq, Repr

/-- The data line unit (chapter 3). `summaryDriveEnd` is where the own drive of this epoch's summary window ends or has ended, 0 when
there is none (R59, R62). -/
structure DataLine where
  tx : Option Transmission
  collisions : Nat
  rx : Option Reception
  summaryDriven : SummarySet
  summaryDriving : Bool
  summaryDriveEnd : Nat
  summaryRise : Option Nat
  summaryStored : Bool
  summaryOr : SummarySet
deriving DecidableEq, Repr

/-! ### Membership unit -/

/-- A temperature record of the roster (R79). -/
structure TempRecord where
  index : Channel
  kind : ChannelKind
  quality : Quality
  value : Option Int
  valueEpoch : EpochNumber
deriving DecidableEq, Repr

/-- A roster entry (R79). -/
structure RosterEntry where
  presence : Presence
  missed : Nat
  lastEpoch : Option EpochNumber
  lastRank : Option Nat
  lastAge : Option Nat
  lastState : Option TimeState
  temps : List TempRecord
deriving DecidableEq, Repr

/-- A chain word being sent: the number fixed for it and its start against the own boundary of the epoch in progress (R65). -/
structure ChainWord where
  number : Station
  start : Int
deriving DecidableEq, Repr

/-- Chain receive state: HUNTING, or READING a word from its rise, which is measured from the own boundary of the epoch in progress, with the
cells read so far (R66). -/
inductive ChainRx where
  | hunting
  | reading (rise : Int) (cells : List Bool)
deriving DecidableEq, Repr

/-- The membership unit (chapter 4). `chainAfter` is the instant, against the own boundary, that a rise of CHIN must follow to be a candidate
start: the last word's completion, or the start (R66, R82). -/
structure Member where
  head : Bool
  number : Option Station
  state : Membership
  chainRx : ChainRx
  chainAfter : Int
  chainTx : Option ChainWord
  candidate : Option Station
  repeatCount : Nat
  quiet : Nat
  wordSeen : Bool
  markedCloses : Nat
  silentCloses : Nat
  conflictQuiet : Nat
  roster : Vector RosterEntry 8
deriving DecidableEq, Repr

/-! ### Front-ends, decimator and correction unit -/

/-- The markings of a conversion (R104). -/
structure Markings where
  fault : Bool
  clipped : Bool
  held : Bool
deriving DecidableEq, Repr

/-- A conversion record (R104). -/
structure Conversion where
  value : Int
  marks : Markings
deriving DecidableEq, Repr

/-- A channel front-end (chapter 6). Its kind is a setting in force. `last` and `lastRaw` are its last conversion; R104 keeps the channel value
and the markings, and the table of section 6.1 lists the raw value beside them (log 32). -/
structure FrontEnd where
  bias : Int
  runSign : RunSign
  runCount : Nat
  settle : Nat
  heldValue : Int
  heldClipped : Bool
  saturated : Bool
  inRange : Nat
  last : Option Conversion
  lastRaw : Option Int
deriving DecidableEq, Repr

/-- The event inputs (section 6.7). -/
structure EventInputs where
  filtered : Vector Bool 2
  sampled : Vector Bool 2
  edgeSeen : Bool
deriving DecidableEq, Repr

/-- A stage-1 output (R122 to R124). -/
structure StageOutput where
  value : Int
  mark : Mark
deriving DecidableEq, Repr

/-- An epoch value with its marking and the epoch it is attributed to (R126, R132). -/
structure EpochValue where
  value : Int
  mark : Mark
  attributed : EpochNumber
deriving DecidableEq, Repr

/-- The decimator's state for one channel (chapter 7); windows hold the oldest first. -/
structure DecChannel where
  stage1 : List Conversion
  stage1Count : Nat
  stage2 : List StageOutput
  value : Option EpochValue
  warming : Bool
deriving DecidableEq, Repr

/-- A glide (R144). -/
structure Glide where
  startOffset : Int
  startScale : Int
  targetOffset : Int
  targetScale : Int
  counter : Nat
deriving DecidableEq, Repr

/-- A corrected value with its decimator marking and correction marking (R150). -/
structure Corrected where
  value : Int
  mark : Mark
  corr : CorrMark
deriving DecidableEq, Repr

/-- The correction unit's state for one channel (chapter 8). -/
structure CorrChannel where
  bin : Nat
  offset : Int
  scale : Int
  glide : Option Glide
  snapped : Bool
  freeze : Freeze
  corrected : Option Corrected
deriving DecidableEq, Repr

/-- The field check (R154, R155). -/
structure FieldCheck where
  outCount : Nat
  inCount : Nat
  drift : Bool
  last : Option DeltaF
deriving DecidableEq, Repr

/-! ### Archive and readout port -/

/-- A formed archive entry (R159). -/
structure Entry where
  seq : Nat
  epoch : EpochNumber
  leader : Option Station
  markKind : MarkKind
  summaryOr : SummarySet
  cut : Bool
  ownCell : CellState
  presence : BitVec 8
  marker : Bool
  body : List Byte
deriving DecidableEq, Repr

/-- The archive's working state: the write queue and, while its head is in write, the slot (R162, R163). -/
structure Archive where
  queue : List Entry
  writing : Option Nat
deriving DecidableEq, Repr

/-- The readout port (chapter 10). `args` are the argument bits sampled so far, `leads` the lead bytes still to send, `sending` the
sequence number of the entry whose image is being sent (R172), and `restartOpen` says that the transaction that carried STATION RESTART
has not ended (R186). -/
structure Port where
  trans : Transaction
  command : Option PortCommand
  args : List Bool
  image : Option (List Byte)
  imageIndex : Nat
  leads : Nat
  sending : Option Nat
  clearsResult : Bool
  lastResult : PortResult
  hold : PortHold
  restartOpen : Bool
  cursor : Nat
  notices : ConditionSet
deriving DecidableEq, Repr

/-- Input pins as last read or reported (section 11.7). -/
structure Pins where
  supply : Bool
  resetAsserted : Bool
  selectLow : Bool
  markAsserted : Bool
  head : Bool
  setupEnable : Bool
  eventHigh : Vector Bool 2
deriving DecidableEq, Repr

/-- The whole station, and the queue of commands that wait. -/
structure State where
  phase : Phase
  pins : Pins
  store : SetupStore
  setup : Setup
  retention : Retention
  tb : Timebase
  mark : MarkUnit
  line : DataLine
  member : Member
  table : EpochTable
  raised : ConditionSet
  front : Vector FrontEnd 4
  events : EventInputs
  dec : Vector DecChannel 4
  restartPending : Bool
  corr : Vector CorrChannel 4
  check : FieldCheck
  archive : Archive
  port : Port
  freeReads : Nat
  pending : List Instr
deriving DecidableEq, Repr

/-! ### Values after a start -/

/-- The default row of a bin table (R195). -/
def BinRow.default : BinRow := { edge := -60000, offset := 0, scale := 0 }

/-- An OFF channel with the default settings of R195. -/
def ChannelSetup.off : ChannelSetup :=
  { kind := .off, weight := 1, biasUnit := 1000000, threshold := 4194304, gain := 0, offset := 0, source := .none,
    rows := [BinRow.default], hysteresis := 0, glideLength := none, staleLimit := 60, startBin := 0 }

/-- The settings in force when the record is rejected (R194). -/
def Setup.halted : Setup :=
  { rejected := true, fixedNumber := none, referenceEnable := false, holdoverHours := 4, keepNewest := false, noticeMask := 0,
    channels := Vector.replicate 4 ChannelSetup.off, stage := none,
    inputs := Vector.replicate 2 { function := .off, assertedLow := false },
    check := { reference := .none, expected := 0, tolerance := 0, count := 1 }, recordFault := false, tableFault := false }

/-- Retention memory that has never been written (R158, R202). -/
def Retention.fresh : Retention :=
  { drift := Vector.replicate 16 { estimate := 0, weight := 0 }, biasSlots := Vector.replicate 4 none, slots := [],
    nextSeq := 1, newest := 0, oldestKept := 1, releasePoint := 0 }

/-- The timebase after a start (R26), given f and the oscillator temperature. -/
def Timebase.afterStart (f oscTemp : Int) : Timebase :=
  { tick := 0, epochLength := Config.nominalEpoch, f := f, phaseTerm := 0, carry := 0, epochNumber := 0, epochsSinceStart := 0,
    held := none, numberFrom := .counting, lastMarkPhase := none, timeState := .free, acquireCount := 0,
    firstEdgeTaken := false, missCount := 0, leaderRank := none, sourceAge := maxCount32, pendingLabel := none,
    oscTemp := oscTemp, settleCount := 0, windowEdge := false, nextWindowEdge := false }

/-- A watch that has seen nothing. -/
def Watch.fresh : Watch := { isOpen := true, taken := false, riseSeen := false }

/-- The mark unit after a start (R44). -/
def MarkUnit.afterStart : MarkUnit :=
  { pulse := none, lastRise := none, watch := Watch.fresh, nextWatch := Watch.fresh, drive := .released, led := false, contention := false,
    fallback := false, disagreement := false, currentLeader := none, nextLeader := none, leaderless := 0 }

/-- The data line unit after a start (R63). No reception stands before the first slot start (log 35). -/
def DataLine.afterStart : DataLine :=
  { tx := none, collisions := 0, rx := none, summaryDriven := 0, summaryDriving := false, summaryDriveEnd := 0, summaryRise := none,
    summaryStored := false, summaryOr := 0 }

/-- A roster entry after a start (R82). -/
def RosterEntry.unseen : RosterEntry :=
  { presence := .unseen, missed := 0, lastEpoch := none, lastRank := none, lastAge := none, lastState := none, temps := [] }

/-- The membership unit after a start (R82), given its head flag, number and state. -/
def Member.afterStart (head : Bool) (number : Option Station) (state : Membership) : Member :=
  { head := head, number := number, state := state, chainRx := .hunting, chainAfter := 0, chainTx := none, candidate := none,
    repeatCount := 0, quiet := 0, wordSeen := false, markedCloses := 0, silentCloses := 0, conflictQuiet := 0,
    roster := Vector.replicate 8 RosterEntry.unseen }

/-- The epoch table after a start (R101). -/
def EpochTable.afterStart : EpochTable := { rows := [], early := none }

/-- A front-end after a start (R118), given its bias step. -/
def FrontEnd.afterStart (bias : Int) : FrontEnd :=
  { bias := bias, runSign := .none, runCount := 0, settle := 0, heldValue := 0, heldClipped := false, saturated := false,
    inRange := 0, last := none, lastRaw := none }

/-- The event inputs after a start (R119), given the filtered levels. -/
def EventInputs.afterStart (filtered : Vector Bool 2) : EventInputs :=
  { filtered := filtered, sampled := Vector.replicate 2 false, edgeSeen := false }

/-- A decimator channel after a start (R133). -/
def DecChannel.afterStart : DecChannel :=
  { stage1 := [], stage1Count := 0, stage2 := [], value := none, warming := false }

/-- A correction channel after a start (R156), given its setup. -/
def CorrChannel.afterStart (c : ChannelSetup) : CorrChannel :=
  { bin := c.startBin, offset := (c.rows.getD c.startBin BinRow.default).offset,
    scale := (c.rows.getD c.startBin BinRow.default).scale, glide := none, snapped := false, freeze := .none, corrected := none }

/-- The field check after a start (R156). -/
def FieldCheck.afterStart : FieldCheck := { outCount := 0, inCount := 0, drift := false, last := none }

/-- The archive's working state after a start (R174). -/
def Archive.afterStart : Archive := { queue := [], writing := none }

/-- The readout port after a start (R192), given the recovered oldest kept. -/
def Port.afterStart (oldestKept : Nat) : Port :=
  { trans := .idle, command := none, args := [], image := none, imageIndex := 0, leads := 0, sending := none, clearsResult := false,
    lastResult := .none, hold := .none, restartOpen := false, cursor := oldestKept, notices := 0 }

/-- Input pins before anything has been read (log 6). -/
def Pins.quiet : Pins :=
  { supply := true, resetAsserted := false, selectLow := false, markAsserted := false, head := false, setupEnable := false,
    eventHigh := Vector.replicate 2 false }

/-- A setup store that has never been written: a record whose check word does not match (R193; its contents are log 5's). -/
def SetupStore.fresh : SetupStore := { stored := List.replicate Config.setupLength 0, writing := none }

/-- The machine right after reset: memories never written, the record rejected, every block at its value after a start, and the
first own boundary still to come (R201; log 5). -/
def State.reset : State :=
  { phase := .starting, pins := Pins.quiet, store := SetupStore.fresh, setup := Setup.halted, retention := Retention.fresh,
    tb := Timebase.afterStart 0 0, mark := MarkUnit.afterStart, line := DataLine.afterStart,
    member := Member.afterStart false none .halted, table := EpochTable.afterStart, raised := 0,
    front := Vector.replicate 4 (FrontEnd.afterStart 0), events := EventInputs.afterStart (Vector.replicate 2 false),
    dec := Vector.replicate 4 DecChannel.afterStart, restartPending := false,
    corr := Vector.replicate 4 (CorrChannel.afterStart ChannelSetup.off), check := FieldCheck.afterStart,
    archive := Archive.afterStart, port := Port.afterStart 1, freeReads := 0, pending := [] }

end Sys2Proof.Machine
end

