-- ==== Sys2Proof/Machine/Operands.lean ====
section
/-! DEFINITION. The forms that the ports carry (chapter 12): byte order, codes, the check word, the report codec, chain and summary
cells, and the grid of cells on a line (R46). -/

namespace Sys2Proof.Machine

/-! ### Bytes and fields (R204) -/

/-- The low `n` bytes of a number, least significant byte first. -/
def leBytes : Nat → Nat → List Byte
  | 0, _ => []
  | n + 1, v => BitVec.ofNat 8 v :: leBytes n (v / 256)

/-- The number that bytes give, least significant byte first. -/
def leNat (bytes : List Byte) : Nat := bytes.foldr (fun b acc => b.toNat + 256 * acc) 0

/-- A number limited to a range of integers. -/
def clampInt (lo hi v : Int) : Int := if v < lo then lo else if hi < v then hi else v

/-- The two's complement reading of an `n`-byte number. -/
def signedOf (n v : Nat) : Int := if v < 2 ^ (8 * n - 1) then (v : Int) else (v : Int) - 2 ^ (8 * n)

/-- An unsigned field of `n` bytes, at its nearer limit when the value exceeds it. -/
def uField (n v : Nat) : List Byte := leBytes n (min v (256 ^ n - 1))

/-- A signed field of `n` bytes, at its nearer limit when the value exceeds it. -/
def sField (n : Nat) (v : Int) : List Byte :=
  leBytes n ((clampInt (-(2 ^ (8 * n - 1))) (2 ^ (8 * n - 1) - 1) v) % (256 ^ n : Int)).toNat

/-- One byte. -/
def byte (v : Nat) : Byte := BitVec.ofNat 8 v

/-- A flag as a number. DESIGN CHOICE: a flag or two-valued state in a byte of its own that section 12.2 gives no code for is sent as 1 when
set (log 36). -/
def flag (b : Bool) : Nat := if b then 1 else 0

/-- The number that bits give, least significant first. -/
def bitsNat (bits : List Bool) : Nat := bits.foldr (fun b n => flag b + 2 * n) 0

/-- Bytes left-aligned in a field of `n` bytes, followed by zeros (R204). -/
def padTo (n : Nat) (bytes : List Byte) : List Byte := (bytes ++ List.replicate n 0).take n

/-! ### Bits on the readout port (R176, R204) -/

/-- The bits of a byte as the readout port moves them: bit 7 first. -/
def portBits (b : Byte) : List Bool := (List.range 8).map b.getMsbD

/-- The whole bytes that sampled bits make, the first bit of each being its bit 7; a byte clocked only in part makes none. -/
def bytesOfPortBits : List Bool → List Byte
  | a :: b :: c :: d :: e :: f :: g :: h :: rest => byte (bitsNat [h, g, f, e, d, c, b, a]) :: bytesOfPortBits rest
  | _ => []

/-! ### Codes (section 12.2) -/

def TimeState.code : TimeState → Nat
  | .free => 0 | .refAcquire => 1 | .locked => 2 | .followAcquire => 3 | .following => 4 | .holdover => 5

def TimeState.ofCode : Nat → Option TimeState
  | 0 => some .free | 1 => some .refAcquire | 2 => some .locked | 3 => some .followAcquire | 4 => some .following
  | 5 => some .holdover | _ => none

def Membership.code : Membership → Nat
  | .unnumbered => 0 | .joining => 1 | .member => 2 | .conflict => 3 | .halted => 4

def ChannelKind.code : ChannelKind → Nat
  | .fieldX => 0 | .fieldY => 1 | .fieldZ => 2 | .fieldF => 3 | .temp => 4 | .off => 5

def ChannelKind.ofCode : Nat → Option ChannelKind
  | 0 => some .fieldX | 1 => some .fieldY | 2 => some .fieldZ | 3 => some .fieldF | 4 => some .temp | 5 => some .off
  | _ => none

def Quality.code : Quality → Nat
  | .good => 0 | .uncorrected => 1 | .staleTemp => 2 | .held => 3 | .clipped => 4 | .warming => 5 | .fault => 6

def Quality.ofCode : Nat → Option Quality
  | 0 => some .good | 1 => some .uncorrected | 2 => some .staleTemp | 3 => some .held | 4 => some .clipped
  | 5 => some .warming | 6 => some .fault | _ => none

def MarkKind.code : MarkKind → Nat
  | .none => 0 | .leader => 1 | .fallback => 2

def CellState.code : CellState → Nat
  | .empty => 0 | .received => 1 | .damaged => 2 | .collided => 3 | .aborted => 4

def DamageKind.code : DamageKind → Nat
  | .framing => 1 | .length => 2 | .check => 3 | .slot => 4 | .format => 5 | .unfinished => 6

def Presence.code : Presence → Nat
  | .unseen => 0 | .present => 1 | .missed => 2 | .gone => 3

def PortResult.code : PortResult → Nat
  | .none => 0 | .done => 1 | .busy => 2 | .unknownCommand => 3 | .badArgument => 4 | .refused => 5 | .cutShort => 6

def ReadStatus.code : ReadStatus → Nat
  | .none => 0 | .clean => 1 | .corrected => 2 | .damaged => 3 | .inWrite => 4

def Freeze.code : Freeze → Nat
  | .none => 0 | .stale => 1 | .attended => 2

def CorrMark.code : CorrMark → Nat
  | .none => 0 | .uncorrected => 1 | .staleTemp => 2

def RunSign.code : RunSign → Nat
  | .none => 0 | .positive => 1 | .negative => 2

/-- The marking set of a conversion: bit 0 FAULT, bit 1 CLIPPED, bit 2 HELD. -/
def Markings.code (m : Markings) : Nat := flag m.fault + 2 * flag m.clipped + 4 * flag m.held

/-- The marking set of a value with one marking. -/
def Mark.code : Mark → Nat
  | .none => 0 | .fault => 1 | .clipped => 2 | .held => 4

/-- A station number, leader or reference station; none holds 0 (R204). -/
def stationByte (k : Option Station) : Nat :=
  match k with
  | some k => stationNumber k
  | none => 0

/-- A reference byte: a station number in bits 0 to 3 and a channel index in bits 4 and 5. -/
def referenceByte (station : Nat) (channel : Channel) : Nat := station % 16 + 16 * channel.val

/-- An entry descriptor: channel index in bits 0 and 1, kind in bits 2 to 4, quality in bits 5 to 7. -/
def descriptor (index : Channel) (kind : ChannelKind) (quality : Quality) : Nat :=
  index.val + 4 * kind.code + 32 * quality.code

/-- Whether a kind is one of the three vector kinds. -/
def ChannelKind.isVector : ChannelKind → Bool
  | .fieldX | .fieldY | .fieldZ => true
  | .fieldF | .temp | .off => false

/-- Whether a kind is one of the four FIELD kinds. -/
def ChannelKind.isField : ChannelKind → Bool
  | .fieldX | .fieldY | .fieldZ | .fieldF => true
  | .temp | .off => false

/-- Whether an entry of this quality carries a value (R93). -/
def Quality.hasValue : Quality → Bool
  | .warming | .fault => false
  | .good | .uncorrected | .staleTemp | .held | .clipped => true

/-! ### The check word (R205) -/

/-- One shift of the check register. -/
def crcShift (r : BitVec 16) : BitVec 16 := if r.getLsbD 15 then (r <<< 1) ^^^ 0x8BB7#16 else r <<< 1

/-- One byte into the check register. -/
def crcByte (r : BitVec 16) (b : Byte) : BitVec 16 :=
  let r := r ^^^ (b.zeroExtend 16 <<< 8)
  crcShift (crcShift (crcShift (crcShift (crcShift (crcShift (crcShift (crcShift r)))))))

/-- The check word of bytes: register preset to 0xFFFF, no final inversion. -/
def checkWord (bytes : List Byte) : BitVec 16 := bytes.foldl crcByte 0xFFFF#16

/-- Whether a setup record's check word, its last two bytes, matches its contents (R193). -/
def recordMatches (record : List Byte) : Bool :=
  leNat ((record.drop (Config.setupLength - 2)).take 2) == (checkWord (record.take (Config.setupLength - 2))).toNat

/-! ### The report codec (R92, R93, section 12.3) -/

/-- The bytes of a channel entry. -/
def encodeEntry (e : ChannelEntry) : List Byte :=
  byte (descriptor e.index e.kind e.quality) ::
    ((match e.value with
      | some v => sField 4 v
      | none => []) ++
     (match e.vec with
      | some x => sField 1 x.bias ++ [byte (x.bin % 16 + 16 * flag x.gliding)]
      | none => []))

/-- The bytes of the ΔF entry, when there is one. -/
def encodeDelta : Option DeltaF → List Byte
  | some d => sField 4 d.value ++ [byte (referenceByte d.station d.channel)]
  | none => []

/-- The report body: from the station byte through the last payload byte. -/
def encodeReport (r : Report) : List Byte :=
  [byte r.station, byte (r.entries.length % 16 + 16)] ++ leBytes 4 r.epoch.toNat ++
  [byte (r.timeState.code + 8 * (r.rank % 4) + 32 * flag r.led + 64 * flag r.deltaF.isSome)] ++
  uField 4 r.sourceAge ++ sField 2 r.markPhase ++ leBytes 2 r.conditions.toNat ++
  r.entries.flatMap encodeEntry ++ encodeDelta r.deltaF

/-- The frame on the line: lead byte, length byte, body, check word (R48). -/
def encodeFrame (r : Report) : List Byte :=
  let body := encodeReport r
  let covered := byte body.length :: body
  0xD5#8 :: (covered ++ leBytes 2 (checkWord covered).toNat)

/-- A channel entry read from the front of bytes, with the bytes after it. None where the kind or quality is not defined for a report
or the bytes run out (R55, FORMAT). -/
def decodeEntry (bytes : List Byte) : Option (ChannelEntry × List Byte) :=
  match bytes with
  | [] => none
  | d :: rest =>
    match ChannelKind.ofCode (d.toNat / 4 % 8), Quality.ofCode (d.toNat / 32) with
    | some kind, some quality =>
      if kind = .off then none
      else
        let valueLen := if quality.hasValue then 4 else 0
        let vecLen := if kind.isVector then 2 else 0
        if rest.length < valueLen + vecLen then none
        else
          let value := if quality.hasValue then some (signedOf 4 (leNat (rest.take 4))) else none
          let vecBytes := rest.drop valueLen
          let vec : Option VectorFields :=
            if kind.isVector then
              some { bias := signedOf 1 (vecBytes.getD 0 0).toNat, bin := (vecBytes.getD 1 0).toNat % 16,
                     gliding := (vecBytes.getD 1 0).toNat / 16 % 2 == 1 }
            else none
          some ({ index := ⟨d.toNat % 4, Nat.mod_lt _ (by decide)⟩, kind := kind, quality := quality, value := value, vec := vec },
                rest.drop (valueLen + vecLen))
    | _, _ => none

/-- `n` channel entries in strictly ascending channel index from `least` on (R55, FORMAT). -/
def decodeEntries : Nat → Nat → List Byte → Option (List ChannelEntry × List Byte)
  | 0, _, bytes => some ([], bytes)
  | n + 1, least, bytes =>
    match decodeEntry bytes with
    | none => none
    | some (e, rest) =>
      if e.index.val < least then none
      else
        match decodeEntries n (e.index.val + 1) rest with
        | none => none
        | some (es, rest') => some (e :: es, rest')

/-- The ΔF entry, which must account for every byte left. -/
def decodeDelta (present : Bool) (bytes : List Byte) : Option (Option DeltaF) :=
  if present then
    if bytes.length = 5 then
      let ref := (bytes.getD 4 0).toNat
      some (some { value := signedOf 4 (leNat (bytes.take 4)), station := ref % 16,
                   channel := ⟨ref / 16 % 4, Nat.mod_lt _ (by decide)⟩ })
    else none
  else if bytes.isEmpty then some none else none

/-- The report that a body carries, or none when the FORMAT check of R55 fails. -/
def decodeReport (body : List Byte) : Option Report :=
  if body.length < 15 then none
  else
    let b := fun i => (body.getD i 0).toNat
    let count := b 1 % 16
    let rank := b 6 / 8 % 4
    if b 1 / 16 ≠ 1 ∨ 4 < count ∨ 2 < rank then none
    else
      match TimeState.ofCode (b 6 % 8) with
      | none => none
      | some ts =>
        match decodeEntries count 0 (body.drop 15) with
        | none => none
        | some (es, rest) =>
          match decodeDelta (b 6 / 64 % 2 == 1) rest with
          | none => none
          | some delta =>
            some { station := b 0, epoch := BitVec.ofNat 32 (leNat ((body.drop 2).take 4)), timeState := ts, rank := rank,
                   led := b 6 / 32 % 2 == 1, sourceAge := leNat ((body.drop 7).take 4),
                   markPhase := signedOf 2 (leNat ((body.drop 11).take 2)),
                   conditions := BitVec.ofNat 16 (leNat ((body.drop 13).take 2)), entries := es, deltaF := delta }

/-- What the receiver makes of a whole frame (R55): a report, or the damage kind of the first check that fails. -/
inductive Judgement where
  | received (report : Report)
  | damaged (kind : DamageKind)
deriving DecidableEq, Repr

/-- The judgement of a frame whose length byte is in range and whose bytes after it are `tail`, by the checks of R55 in order. -/
def judgeWhole (slot : Station) (len : Byte) (tail : List Byte) : Judgement :=
  let body := tail.take len.toNat
  let check := leNat ((tail.drop len.toNat).take 2)
  if check ≠ (checkWord (len :: body)).toNat then .damaged .check
  else if (body.getD 0 0).toNat ≠ stationNumber slot then .damaged .slot
  else
    match decodeReport body with
    | none => .damaged .format
    | some r => .received r

/-- The judgement of a frame read in `slot`, its lead and length bytes included (R54, R55). None while bytes are still to come. -/
def judgeFrame (slot : Station) (frame : List Byte) : Option Judgement :=
  match frame with
  | [] => none
  | lead :: rest =>
    if lead ≠ 0xD5#8 then some (.damaged .framing)
    else
      match rest with
      | [] => none
      | len :: tail =>
        if len.toNat < 15 ∨ 48 < len.toNat then some (.damaged .length)
        else if tail.length < len.toNat + 2 then none
        else some (judgeWhole slot len tail)

/-! ### Cells on a line (R46) -/

/-- Ticks from the start of a sequence to the start of its cell `n`. -/
def cellStart (n : Nat) : Nat := n * 3125 / 3

/-- Ticks from the start of a sequence to the centre of its cell `n`. -/
def cellCentre (n : Nat) : Nat := (2 * n + 1) * 3125 / 6

/-- The cell in progress `elapsed` ticks after the start of a sequence (R46). -/
def cellAt (elapsed : Nat) : Nat := (3 * elapsed + 2) / 3125

/-- The cells of a byte: start cell, eight data bits from the least significant, stop cell. -/
def byteCells (b : Byte) : List Bool := true :: ((List.range 8).map b.getLsbD ++ [false])

/-- The byte that eight data cells carry, the first being its least significant bit. -/
def byteOfCells (cells : List Bool) : Byte := byte (bitsNat cells)

/-- The cells of a byte sequence, back to back. -/
def frameCells (bytes : List Byte) : List Bool := bytes.flatMap byteCells

/-- The ten cells of a chain word that carries a number (R65). -/
def chainCells (number : BitVec 4) : List Bool :=
  true :: ((List.range 4).map number.getLsbD ++ (List.range 4).map (fun i => !number.getLsbD i) ++ [false])

/-- The number that four cells of a chain word carry, the first being its least significant bit (R65). -/
def cellsNumber (cells : List Bool) : BitVec 4 := BitVec.ofNat 4 (bitsNat cells)

/-- The six cells of a summary window that a station drives (R59). -/
def summaryCells (bits : SummarySet) : List Bool := true :: ((List.range 4).map bits.getLsbD ++ [false])

/-! ### Integer square root (R153) -/

/-- Bit by bit from `bits` down, the largest r at or above `r` whose square does not exceed `v`. -/
def sqrtFrom : Nat → Nat → Nat → Nat
  | 0, _, r => r
  | b + 1, v, r => if (r + 2 ^ b) * (r + 2 ^ b) ≤ v then sqrtFrom b v (r + 2 ^ b) else sqrtFrom b v r

/-- The square root of `v`, below 2^66, rounded to the nearest integer; it never falls midway. -/
def nearestSqrt (v : Nat) : Nat :=
  let r := sqrtFrom 33 v 0
  if r * r + r < v then r + 1 else r

end Sys2Proof.Machine
end

