-- ==== Sys2Proof/Machine/Update.lean ====
section
/-! DEFINITION. One setter for each block of State, and the plain maps over the fixed arrays. Every meaning changes State through
these, so that Laws/State.lean says once what each leaves alone. -/

namespace Sys2Proof.Machine

/-- State with its `phase` replaced. -/
def State.setPhase (s : State) (x : Phase) : State := { s with phase := x }

/-- State with its `pins` replaced. -/
def State.setPins (s : State) (x : Pins) : State := { s with pins := x }

/-- State with its `store` replaced. -/
def State.setStore (s : State) (x : SetupStore) : State := { s with store := x }

/-- State with its `setup` replaced. -/
def State.setSetup (s : State) (x : Setup) : State := { s with setup := x }

/-- State with its `retention` replaced. -/
def State.setRetention (s : State) (x : Retention) : State := { s with retention := x }

/-- State with its `tb` replaced. -/
def State.setTb (s : State) (x : Timebase) : State := { s with tb := x }

/-- State with its `mark` replaced. -/
def State.setMark (s : State) (x : MarkUnit) : State := { s with mark := x }

/-- State with its `line` replaced. -/
def State.setLine (s : State) (x : DataLine) : State := { s with line := x }

/-- State with its `member` replaced. -/
def State.setMember (s : State) (x : Member) : State := { s with member := x }

/-- State with its `table` replaced. -/
def State.setTable (s : State) (x : EpochTable) : State := { s with table := x }

/-- State with its `raised` replaced. -/
def State.setRaised (s : State) (x : ConditionSet) : State := { s with raised := x }

/-- State with its `front` replaced. -/
def State.setFront (s : State) (x : Vector FrontEnd 4) : State := { s with front := x }

/-- State with its `events` replaced. -/
def State.setEvents (s : State) (x : EventInputs) : State := { s with events := x }

/-- State with its `dec` replaced. -/
def State.setDec (s : State) (x : Vector DecChannel 4) : State := { s with dec := x }

/-- State with its `restartPending` replaced. -/
def State.setRestartPending (s : State) (x : Bool) : State := { s with restartPending := x }

/-- State with its `corr` replaced. -/
def State.setCorr (s : State) (x : Vector CorrChannel 4) : State := { s with corr := x }

/-- State with its `check` replaced. -/
def State.setCheck (s : State) (x : FieldCheck) : State := { s with check := x }

/-- State with its `archive` replaced. -/
def State.setArchive (s : State) (x : Archive) : State := { s with archive := x }

/-- State with its `port` replaced. -/
def State.setPort (s : State) (x : Port) : State := { s with port := x }

/-- State with its `freeReads` replaced. -/
def State.setFreeReads (s : State) (x : Nat) : State := { s with freeReads := x }

/-- State with its `pending` replaced. -/
def State.setPending (s : State) (x : List Instr) : State := { s with pending := x }

/-- An array with each place mapped. -/
def mapAll {α β : Type} {n : Nat} (v : Vector α n) (g : α → β) : Vector β n := Vector.ofFn fun i => g v[i]

/-- An array with each place mapped, its index given. -/
def mapAllIdx {α β : Type} {n : Nat} (v : Vector α n) (g : Fin n → α → β) : Vector β n := Vector.ofFn fun i => g i v[i]

/-- An array with the place `i` changed. -/
def setAt {α : Type} {n : Nat} (v : Vector α n) (i : Fin n) (x : α) : Vector α n := v.set i x

end Sys2Proof.Machine
end

