-- ==== Sys2Proof/Machine/ChannelOps.lean ====
section
/-! DEFINITION. Operations of the channel front-ends (chapter 6) and of the decimator (chapter 7), one channel at a time. -/

namespace Sys2Proof.Machine

/-! ### Conversions (R104, R105, R113, R114) -/

/-- No marking. -/
def Markings.clean : Markings := { fault := false, clipped := false, held := false }

/-- A raw value at full scale (R104). -/
def atFullScale (raw : Int) : Bool := decide (8388607 ≤ raw) || decide (raw ≤ -8388607)

/-- The restored value of a vector channel's conversion (R105). -/
def restoredValue (c : ChannelSetup) (bias raw : Int) : Int := raw * c.weight + bias * c.biasUnit

/-- The temperature of a TEMP conversion before its limit (R113). -/
def computedTemperature (c : ChannelSetup) (raw : Int) : Int := (raw * c.gain).tdiv 65536 + c.offset

/-- The record of a TEMP conversion (R113, R114). -/
def temperatureRecord (c : ChannelSetup) (raw : Int) : Conversion :=
  let t := computedTemperature c raw
  { value := clampInt (-60000) 80000 t
    marks := { Markings.clean with fault := atFullScale raw || decide (t < -60000) || decide (80000 < t) } }

/-- The record of a FIELD_F conversion (R104, R105). -/
def scalarRecord (c : ChannelSetup) (raw : Int) : Conversion :=
  { value := raw * c.weight, marks := { Markings.clean with clipped := atFullScale raw } }

/-- The record of a vector channel's conversion outside a settle (R104, R105). -/
def vectorRecord (c : ChannelSetup) (bias raw : Int) : Conversion :=
  { value := restoredValue c bias raw, marks := { Markings.clean with clipped := atFullScale raw } }

/-! ### Runs, rebias and saturation (R107 to R110) -/

/-- The sign in which a raw value lies beyond the threshold (R107). -/
def beyond (threshold : Nat) (raw : Int) : RunSign :=
  if (threshold : Int) < raw then .positive else if raw < -(threshold : Int) then .negative else .none

/-- The run after a conversion (R107). -/
def FrontEnd.run (f : FrontEnd) (sign : RunSign) : FrontEnd :=
  { f with runSign := sign
           runCount := if sign = .none then 0 else if f.runSign = sign then f.runCount + 1 else 1 }

/-- The in-range count after a conversion, and the end of saturation at 64 (R110). -/
def FrontEnd.range (f : FrontEnd) (sign : RunSign) : FrontEnd :=
  let n := if sign = .none then countTo64 f.inRange else 0
  { f with inRange := n, saturated := f.saturated && decide (n < 64) }
where
  /-- A count that stops at 64. -/
  countTo64 (n : Nat) : Nat := if n < 64 then n + 1 else 64

/-- The bias step has room in a run's direction (R108). -/
def FrontEnd.room (f : FrontEnd) (sign : RunSign) : Bool :=
  match sign with
  | .positive => decide (f.bias < 15)
  | .negative => decide (-15 < f.bias)
  | .none => false

/-- What a conversion makes of a front-end (R104 to R110): its new state, the record handed to the decimator, and whether the channel
rebiased or held. -/
structure ConversionOutcome where
  front : FrontEnd
  record : Conversion
  rebiased : Bool
  held : Bool
deriving DecidableEq, Repr

/-- A settle conversion (R109). -/
def FrontEnd.settleConversion (f : FrontEnd) : ConversionOutcome :=
  let record : Conversion := { value := f.heldValue, marks := { fault := false, clipped := f.heldClipped, held := true } }
  { front := { f with settle := f.settle - 1, last := some record }, record := record, rebiased := false, held := true }

/-- A rebias after the conversion that completed a run (R108). -/
def FrontEnd.rebias (f : FrontEnd) (sign : RunSign) (record : Conversion) : FrontEnd :=
  { f with bias := if sign = .positive then f.bias + 1 else f.bias - 1
           heldValue := record.value, heldClipped := record.marks.clipped, runSign := .none, runCount := 0, settle := 4 }

/-- Entry into saturation, or staying in it (R110). -/
def FrontEnd.saturate (f : FrontEnd) : FrontEnd :=
  { f with saturated := true, inRange := 0, runSign := .none, runCount := 0 }

/-- A vector channel's conversion (R105, R107 to R110). -/
def FrontEnd.vectorConversion (f : FrontEnd) (c : ChannelSetup) (raw : Int) : ConversionOutcome :=
  if 0 < f.settle then f.settleConversion
  else
    let record := vectorRecord c f.bias raw
    let sign := beyond c.threshold raw
    let f : FrontEnd := { (f.run sign).range sign with last := some record }
    if 16 ≤ f.runCount then
      if f.room sign then { front := f.rebias sign record, record := record, rebiased := true, held := false }
      else { front := f.saturate, record := record, rebiased := false, held := false }
    else { front := f, record := record, rebiased := false, held := false }

/-- A conversion of a channel that keeps no run (R104, R113). -/
def FrontEnd.plainConversion (f : FrontEnd) (record : Conversion) : ConversionOutcome :=
  { front := { f with last := some record }, record := record, rebiased := false, held := false }

/-- A conversion, by the channel's kind; an OFF channel makes none (R102). The raw value is kept as delivered (log 32). -/
def FrontEnd.convert (f : FrontEnd) (c : ChannelSetup) (raw : Int) : Option ConversionOutcome :=
  let f := { f with lastRaw := some raw }
  match c.kind with
  | .fieldX | .fieldY | .fieldZ => some (f.vectorConversion c raw)
  | .fieldF => some (f.plainConversion (scalarRecord c raw))
  | .temp => some (f.plainConversion (temperatureRecord c raw))
  | .off => none

/-- A flush of a front-end (R112). -/
def FrontEnd.flush (f : FrontEnd) : FrontEnd := { f with runSign := .none, runCount := 0, settle := 0, inRange := 0 }

/-! ### Decimation (R121 to R130) -/

/-- Precedence FAULT, CLIPPED, HELD, none (R124). -/
def Mark.worse (a b : Mark) : Mark :=
  match a, b with
  | .fault, _ => .fault
  | _, .fault => .fault
  | .clipped, _ => .clipped
  | _, .clipped => .clipped
  | .held, _ => .held
  | _, .held => .held
  | .none, .none => .none

/-- The one marking of a conversion record (R124). -/
def Markings.mark (m : Markings) : Mark :=
  if m.fault then .fault else if m.clipped then .clipped else if m.held then .held else .none

/-- The worst of several markings. -/
def worstMark (marks : List Mark) : Mark := marks.foldl Mark.worse .none

/-- The exact sum of products of coefficients and values, in order. -/
def weightedSum (coefficients values : List Int) : Int := (List.zipWith (· * ·) coefficients values).sum

/-- A value joins a window that holds at most `n`; the oldest leaves a full one (R121, R125). -/
def pushWindow {α : Type} (n : Nat) (window : List α) (x : α) : List α :=
  (if n ≤ window.length then window.drop 1 else window) ++ [x]

/-- The stage-1 output of a full window (R122 to R124). -/
def stage1Output (g : StageSettings) (window : List Conversion) : StageOutput :=
  if g.mean then
    let newest := window.drop 8
    { value := ((newest.map Conversion.value).sum).tdiv 8, mark := worstMark (newest.map fun r => r.marks.mark) }
  else
    { value := (weightedSum g.table1 (window.map Conversion.value)).tdiv 65536
      mark := worstMark (window.map fun r => r.marks.mark) }

/-- A conversion record joins stage 1; every eighth is an output point (R121, R125). -/
def DecChannel.push (d : DecChannel) (g : StageSettings) (r : Conversion) : DecChannel :=
  let window := pushWindow 16 d.stage1 r
  if d.stage1Count + 1 < 8 then { d with stage1 := window, stage1Count := d.stage1Count + 1 }
  else
    { d with stage1 := window, stage1Count := 0
             stage2 := if 16 ≤ window.length then pushWindow 32 d.stage2 (stage1Output g window) else d.stage2 }

/-- The epoch value of a channel at a boundary that carries no flush (R126, R132). -/
def DecChannel.epochValue (d : DecChannel) (g : StageSettings) (epoch : EpochNumber) : Option EpochValue :=
  if 32 ≤ d.stage2.length then
    some { value := (weightedSum g.table2 (d.stage2.map StageOutput.value)).tdiv 65536
           mark := worstMark (d.stage2.map StageOutput.mark), attributed := epoch - 2 }
  else none

/-- A channel that is not OFF at a boundary without a flush (R126, R128). -/
def DecChannel.produce (d : DecChannel) (g : StageSettings) (epoch : EpochNumber) : DecChannel :=
  { d with value := d.epochValue g epoch, warming := d.warming && decide (d.stage2.length < 32) }

/-- A channel that is not OFF at a flush boundary (R129). -/
def DecChannel.flush (_ : DecChannel) : DecChannel :=
  { stage1 := [], stage1Count := 0, stage2 := [], value := none, warming := true }

/-- A channel's decimator at an own boundary (R126, R129); an OFF channel has no windows in use. -/
def DecChannel.boundary (d : DecChannel) (kind : ChannelKind) (stage : Option StageSettings) (flush : Bool) (epoch : EpochNumber) :
    DecChannel :=
  if kind = .off then d
  else if flush then d.flush
  else
    match stage with
    | some g => d.produce g epoch
    | none => d

end Sys2Proof.Machine
end

