-- ==== Sys2Proof/Machine/TimeOps.lean ====
section
/-! DEFINITION. Operations of the timebase unit (chapter 1): epoch length, phase, steering, misses, time states, labels, the drift
table, and what it does at a boundary and at a close. They act on the timebase and the drift table alone. -/

namespace Sys2Proof.Machine

/-- f limited to −10,000 to +10,000 ppb (R2). -/
def clampCorrection (f : Int) : Int := clampInt (-Config.maxCorrection) Config.maxCorrection f

/-- A 32-bit count rises by 1 and stops at its largest value (R3, R17). -/
def countUp (limit n : Nat) : Nat := if n < limit then n + 1 else limit

/-- The station reaches a position of the epoch: the tick count does not go back (log 3). -/
def Timebase.reach (tb : Timebase) (tick : Nat) : Timebase := { tb with tick := max tb.tick tick }

/-- A position against the nearest own boundary: from 5,000,000 ticks on it belongs to the boundary to come (R4). -/
def Timebase.fold (tb : Timebase) (p : Int) : Int := if Config.foldPoint ≤ p then p - tb.epochLength else p

/-- The epoch's length is fixed, the carry kept and the phase term cleared (R2). -/
def Timebase.fixLength (tb : Timebase) : Timebase :=
  let sum := tb.f + tb.carry
  let whole := sum.tdiv 100
  { tb with epochLength := Config.nominalEpoch + tb.phaseTerm + whole, carry := sum - 100 * whole, phaseTerm := 0 }

/-! ### Time states, misses and steering -/

/-- A change of time state: misses and the settle count clear, LOCKED sets the source age to 0, and leaving LOCKED discards the pending
label (R8, R12, R17, R19, R22). -/
def Timebase.enter (tb : Timebase) (ts : TimeState) : Timebase :=
  if tb.timeState = ts then tb
  else
    { tb with timeState := ts, missCount := 0, settleCount := 0, pendingLabel := none,
              sourceAge := if ts = .locked then 0 else tb.sourceAge }

/-- Entry into an acquire state: the count starts from 0 and the first-edge flag is as the entry makes it (R9). -/
def Timebase.enterAcquire (tb : Timebase) (ts : TimeState) (edgeTaken : Bool) : Timebase :=
  { tb.enter ts with acquireCount := 0, firstEdgeTaken := edgeTaken }

/-- To steer to an edge of phase φ (R6). -/
def Timebase.steer (tb : Timebase) (phase : Int) : Timebase :=
  { tb with phaseTerm := phase.tdiv 4, f := clampCorrection (tb.f + (phase * 100).tdiv 16) }

/-- A steering edge that does not qualify for learning (R22). -/
def Timebase.steerPlain (tb : Timebase) (phase : Int) : Timebase := { tb.steer phase with settleCount := 0 }

/-- One miss is counted; it clears the settle count (R8, R22). -/
def Timebase.miss (tb : Timebase) : Timebase := { tb with missCount := tb.missCount + 1, settleCount := 0 }

/-! ### The drift table (R21 to R25) -/

/-- The bin of an oscillator temperature (R21). -/
def driftBinOf (temp : Int) : Fin 16 :=
  let i := (clampInt 0 15 ((temp + 20000).fdiv 4000)).toNat
  ⟨i % 16, Nat.mod_lt _ (by decide)⟩

/-- The centre of a bin (R21). -/
def driftCentre (i : Fin 16) : Int := -18000 + 4000 * (i.val : Int)

/-- A bin is trusted from weight 8 on (R21). -/
def DriftBin.trusted (b : DriftBin) : Bool := decide (8 ≤ b.weight)

/-- The bin indices. -/
def driftIndices : List (Fin 16) := List.finRange 16

/-- The nearest trusted bin below an index (R25). -/
def trustedBelow (drift : Vector DriftBin 16) (i : Fin 16) : Option (Fin 16) :=
  (driftIndices.filter fun j => decide (j.val < i.val) && drift[j].trusted).getLast?

/-- The nearest trusted bin above an index (R25). -/
def trustedAbove (drift : Vector DriftBin 16) (i : Fin 16) : Option (Fin 16) :=
  (driftIndices.filter fun j => decide (i.val < j.val) && drift[j].trusted).head?

/-- The estimate that a lookup uses, or none when no bin is trusted (R25). -/
def driftEstimate (drift : Vector DriftBin 16) (temp : Int) : Option Int :=
  let i := driftBinOf temp
  if drift[i].trusted then some drift[i].estimate
  else
    match trustedBelow drift i, trustedAbove drift i with
    | some lo, some hi =>
      some (drift[lo].estimate +
        ((drift[hi].estimate - drift[lo].estimate) * (temp - driftCentre lo)).tdiv (driftCentre hi - driftCentre lo))
    | some lo, none => some drift[lo].estimate
    | none, some hi => some drift[hi].estimate
    | none, none => none

/-- The drift-table lookup: f becomes the estimate divided by 100, or keeps its value (R25, R26). -/
def driftLookup (drift : Vector DriftBin 16) (temp f : Int) : Int :=
  match driftEstimate drift temp with
  | some d => clampCorrection (d.tdiv 100)
  | none => f

/-- A bin learns the value x (R24). -/
def DriftBin.learn (b : DriftBin) (x : Int) : DriftBin :=
  { estimate := b.estimate + (x - b.estimate).tdiv (if b.weight < 64 then (b.weight : Int) + 1 else 64)
    weight := countUp 255 b.weight }

/-- The timebase and the drift table, which an edge changes together, and whether the edge is stepped to. -/
structure EdgeOutcome where
  tb : Timebase
  drift : Vector DriftBin 16
  step : Bool
deriving DecidableEq, Repr

/-- A qualifying edge, after its steering: the settle count rises, or at 60 the current bin learns f × 100 (R22, R24). -/
def qualify (tb : Timebase) (drift : Vector DriftBin 16) : EdgeOutcome :=
  if tb.settleCount < 60 then { tb := { tb with settleCount := tb.settleCount + 1 }, drift := drift, step := false }
  else
    let i := driftBinOf tb.oscTemp
    { tb := tb, drift := setAt drift i (drift[i].learn (tb.f * 100)), step := false }

/-! ### Labels (R19, R20) -/

/-- What a label or a relabel does to a timebase, and whether RELABELED is raised. -/
structure LabelOutcome where
  tb : Timebase
  relabeled : Bool
deriving DecidableEq, Repr

/-- A window's edge of phase φ applies the pending label: to the epoch to come when φ is negative, else to the epoch in progress.
RELABELED is raised once for an epoch that a relabel numbered too (R19). -/
def Timebase.applyLabel (tb : Timebase) (phase : Int) : LabelOutcome :=
  match tb.pendingLabel with
  | none => { tb := tb, relabeled := false }
  | some l =>
    if phase < 0 then
      { tb := { tb with held := some { number := l, byLabel := true }, pendingLabel := none }
        relabeled := tb.held.all HeldNumber.byLabel }
    else
      { tb := { tb with epochNumber := l, numberFrom := .label, pendingLabel := none }
        relabeled := decide (tb.numberFrom ≠ .relabel) }

/-- A leader's report with another epoch number: at an ordinary close its number + 1 is held for the next epoch; at a cut close the epoch
in progress takes it at once. A label given to the same epoch stands (R19, R20). -/
def Timebase.relabel (tb : Timebase) (cut : Bool) (leaders : EpochNumber) : LabelOutcome :=
  if cut then
    if tb.numberFrom = .label then { tb := tb, relabeled := false }
    else { tb := { tb with epochNumber := leaders + 1, numberFrom := .relabel }, relabeled := true }
  else
    if tb.held.any HeldNumber.byLabel then { tb := tb, relabeled := false }
    else { tb := { tb with held := some { number := leaders + 1, byLabel := false } }, relabeled := true }

/-! ### Reference edges and windows (R4, R8, R10 to R15) -/

/-- Whether a phase lies inside the reference window (R4). -/
def inReferenceWindow (phase : Int) : Bool := decide (-Config.referenceReach ≤ phase) && decide (phase ≤ Config.referenceReach)

/-- The magnitude of a phase is at most a limit. -/
def phaseWithin (limit phase : Int) : Bool := decide (-limit ≤ phase) && decide (phase ≤ limit)

/-- Whether the window that a reference edge at position p belongs to has had its edge (R4). -/
def Timebase.windowTaken (tb : Timebase) (p : Int) : Bool := if Config.foldPoint ≤ p then tb.nextWindowEdge else tb.windowEdge

/-- The window that a reference edge at position p belongs to has its edge (R4). -/
def Timebase.takeWindow (tb : Timebase) (p : Int) : Timebase :=
  if Config.foldPoint ≤ p then { tb with nextWindowEdge := true } else { tb with windowEdge := true }

/-- What a reference edge of phase φ does by the time state; `inside` says that it is its window's edge (R10 to R15). -/
def referenceEdgeOutcome (tb : Timebase) (drift : Vector DriftBin 16) (inside : Bool) (phase : Int) : EdgeOutcome :=
  match tb.timeState with
  | .free | .followAcquire | .following | .holdover => { tb := tb.enterAcquire .refAcquire true, drift := drift, step := true }
  | .refAcquire =>
    if !inside then { tb := { tb with acquireCount := 0 }, drift := drift, step := true }
    else
      let tb := { tb.steerPlain phase with missCount := 0 }
      if phaseWithin 100 phase then
        let tb := { tb with acquireCount := tb.acquireCount + 1 }
        { tb := if 4 ≤ tb.acquireCount then tb.enter .locked else tb, drift := drift, step := false }
      else { tb := { tb with acquireCount := 0 }, drift := drift, step := false }
  | .locked =>
    if inside then qualify { tb.steer phase with missCount := 0 } drift
    else { tb := tb, drift := drift, step := false }

/-- The loss at three reference misses (R11, R12): `follows` says that mark events discipline the station (a leader's do not). -/
def Timebase.referenceLoss (tb : Timebase) (follows : Bool) : Timebase :=
  if tb.missCount < 3 then tb
  else if !follows then tb.enter .holdover
  else if tb.timeState = .locked ∧ tb.lastMarkPhase.any (phaseWithin 20000) then tb.enter .following
  else tb.enterAcquire .followAcquire false

/-- The end of a boundary's reference window (R8, R11, R12). -/
def Timebase.windowEnd (tb : Timebase) (follows : Bool) : Timebase :=
  if tb.windowEdge then tb
  else
    match tb.timeState with
    | .refAcquire => ({ tb.miss with acquireCount := 0 } : Timebase).referenceLoss follows
    | .locked => tb.miss.referenceLoss follows
    | .free | .followAcquire | .following | .holdover => tb

/-! ### Mark events (R5, R8, R13 to R15) -/

/-- The loss at three mark misses (R13, R14). -/
def Timebase.markLoss (tb : Timebase) : Timebase := if tb.missCount < 3 then tb else tb.enter .holdover

/-- A steering mark edge in FOLLOWING: a mark taken close to the boundary behind a leader of rank 0 qualifies for learning (R22). -/
def followSteer (tb : Timebase) (drift : Vector DriftBin 16) (taken : Bool) (phase : Int) : EdgeOutcome :=
  if taken && decide (tb.leaderRank = some 0) && phaseWithin 99 phase then qualify (tb.steer phase) drift
  else { tb := tb.steerPlain phase, drift := drift, step := false }

/-- What a mark taken or a stray mark of phase φ does in a time state, while mark events discipline (R8, R10, R13 to R15). -/
def markEdgeOutcome (tb : Timebase) (drift : Vector DriftBin 16) (taken : Bool) (phase : Int) : EdgeOutcome :=
  match tb.timeState with
  | .free => { tb := tb.enterAcquire .followAcquire true, drift := drift, step := true }
  | .refAcquire | .locked => { tb := tb, drift := drift, step := false }
  | .followAcquire =>
    if !tb.firstEdgeTaken then { tb := { tb with firstEdgeTaken := true, missCount := 0 }, drift := drift, step := true }
    else if !phaseWithin 20000 phase then { tb := { tb with acquireCount := 0, missCount := 0 }, drift := drift, step := true }
    else
      let tb := { tb.steerPlain phase with missCount := if taken then 0 else tb.missCount }
      if phaseWithin 500 phase then
        let tb := { tb with acquireCount := tb.acquireCount + 1 }
        { tb := if 4 ≤ tb.acquireCount then tb.enter .following else tb, drift := drift, step := false }
      else { tb := { tb with acquireCount := 0 }, drift := drift, step := false }
  | .following =>
    if taken && phaseWithin 20000 phase then followSteer { tb with missCount := 0 } drift taken phase
    else { tb := tb.miss.markLoss, drift := drift, step := false }
  | .holdover =>
    if phaseWithin 19999 phase then followSteer (tb.enter .following) drift taken phase
    else { tb := tb.enterAcquire .followAcquire true, drift := drift, step := true }

/-- A mark event handed to the timebase: the last mark phase is kept from each mark taken, and the rest happens only while mark events
discipline (R5). -/
def handMark (tb : Timebase) (drift : Vector DriftBin 16) (disciplines taken : Bool) (phase : Int) : EdgeOutcome :=
  let tb := if taken then { tb with lastMarkPhase := some phase } else tb
  if disciplines then markEdgeOutcome tb drift taken phase else { tb := tb, drift := drift, step := false }

/-- A mark absent (R5, R8, R13, R14). -/
def Timebase.markAbsent (tb : Timebase) (disciplines : Bool) : Timebase :=
  let tb := { tb with lastMarkPhase := none }
  if !disciplines then tb
  else
    match tb.timeState with
    | .followAcquire => ({ tb.miss with acquireCount := 0 } : Timebase).markLoss
    | .following => tb.miss.markLoss
    | .free | .refAcquire | .locked | .holdover => tb

/-! ### The own boundary (R1, R2) -/

/-- How a boundary comes: counted, by a step to a reference edge, or by a step to a mark (R1, R7). -/
inductive BoundaryKind where
  | counted | referenceStep | markStep
deriving DecidableEq, Repr

/-- Whether a boundary is a step. -/
def BoundaryKind.isStep : BoundaryKind → Bool
  | .counted => false
  | .referenceStep | .markStep => true

/-- What R1 does at an own boundary: the number advances or a held number applies, the epochs count, the oscillator temperature is read, a
HOLDOVER station looks f up, and the length of the new epoch is fixed. A step clears the phase term and the settle count first (R7,
R22); a HOLDOVER boundary takes no phase term (R15, log 11). -/
def Timebase.boundary (tb : Timebase) (drift : Vector DriftBin 16) (kind : BoundaryKind) (tick : Nat) (oscTemp : Int) : Timebase :=
  ({ tb with
      tick := tick
      epochNumber := match tb.held with
        | some h => h.number
        | none => tb.epochNumber + 1
      numberFrom := match tb.held with
        | some h => if h.byLabel then .label else .relabel
        | none => .counting
      held := none
      epochsSinceStart := countUp maxCount32 tb.epochsSinceStart
      oscTemp := oscTemp
      f := if tb.timeState = .holdover then driftLookup drift oscTemp tb.f else tb.f
      phaseTerm := if kind.isStep || decide (tb.timeState = .holdover) then 0 else tb.phaseTerm
      settleCount := if kind.isStep then 0 else tb.settleCount
      windowEdge := match kind with
        | .counted => tb.nextWindowEdge
        | .referenceStep => true
        | .markStep => false
      nextWindowEdge := false } : Timebase).fixLength

/-! ### Lead rank and the row close (R16 to R18, R20) -/

/-- The lead rank, derived from the time state and the source age (R18). -/
def leadRank (tb : Timebase) (holdoverHours : Nat) : Nat :=
  match tb.timeState with
  | .locked => 0
  | .following | .holdover => if tb.sourceAge < holdoverHours * 3600 then 1 else 2
  | .free | .refAcquire | .followAcquire => 2

/-- The source age after a close, by the time state in which the row was collected (R17). -/
def ageAfterClose (collected : TimeState) (age : Nat) (leaders : Option Report) : Nat :=
  match collected with
  | .locked => 0
  | .following =>
    match leaders with
    | some r => r.sourceAge
    | none => countUp maxCount32 age
  | .refAcquire | .followAcquire | .holdover => countUp maxCount32 age
  | .free => maxCount32

/-- The time state of a station that a close makes leader of the next epoch (R16). -/
def Timebase.lead (tb : Timebase) (leads : Bool) : Timebase :=
  if leads then
    match tb.timeState with
    | .following | .followAcquire => tb.enter .holdover
    | .free | .refAcquire | .locked | .holdover => tb
  else tb

/-- The timebase at a row close (R16, R17, R18, R20): `collected` is the time state the row was collected in, `leaders` the row's leader's
report, `rowEpoch` the row's own epoch number, and `leads` says that the close makes the station leader. -/
def Timebase.close (tb : Timebase) (cut : Bool) (collected : TimeState) (leaders : Option Report) (rowEpoch : EpochNumber)
    (leads : Bool) : LabelOutcome :=
  let age := ageAfterClose collected tb.sourceAge leaders
  let tb := { tb with sourceAge := age, leaderRank := leaders.map Report.rank }
  match leaders with
  | some r =>
    if r.epoch = rowEpoch then { tb := tb.lead leads, relabeled := false }
    else { tb := (tb.relabel cut r.epoch).tb.lead leads, relabeled := (tb.relabel cut r.epoch).relabeled }
  | none => { tb := tb.lead leads, relabeled := false }

end Sys2Proof.Machine
end

