-- ==== Sys2Proof/Machine/MarkOps.lean ====
section
/-! DEFINITION. Operations of the mark unit and of the rows it writes (chapters 2 and 5): watches, the mark record of a row, the
election, the disagreement flag, and what the unit does at a boundary and at a close. -/

namespace Sys2Proof.Machine

/-! ### Cells and rows -/

/-- A cell as it opens (R84). -/
def Cell.empty : Cell := { state := .empty, damage := none, report := none, own := false }

/-- A row as it opens (R84). -/
def Row.opened (epoch : EpochNumber) (leader : Option Station) (record : Option (MarkKind × Int)) : Row :=
  { epoch := epoch, leader := leader
    markKind := match record with
      | some (k, _) => k
      | none => .none
    markPhase := record.map fun x => clampInt (-32767) 32767 x.2
    summaryOr := 0, cells := Vector.replicate 8 Cell.empty, isOpen := true, cut := false }

/-- The open row, which is the most recently opened one (R83). -/
def EpochTable.openRow (t : EpochTable) : Option Row :=
  match t.rows with
  | r :: _ => if r.isOpen then some r else none
  | [] => none

/-- The open row, if there is one, changed (R85). -/
def EpochTable.mapOpen (t : EpochTable) (g : Row → Row) : EpochTable :=
  match t.rows with
  | r :: rest => if r.isOpen then { t with rows := g r :: rest } else t
  | [] => t

/-- The closed rows, age 0 first (R83). -/
def EpochTable.closedRows (t : EpochTable) : List Row := t.rows.filter fun r => !r.isOpen

/-- A row opens: the oldest of four leaves, and no other row stays open (R84, log 13). -/
def EpochTable.openNew (t : EpochTable) (r : Row) : EpochTable :=
  { rows := r :: (t.rows.take 3).map fun x => { x with isOpen := false }, early := none }

/-- The cell of a station in the open row, changed (R85). -/
def EpochTable.mapCell (t : EpochTable) (k : Station) (g : Cell → Cell) : EpochTable :=
  t.mapOpen fun r => { r with cells := setAt r.cells k (g r.cells[k]) }

/-- The mark kind and phase of the open row (R35): φ limited to ±32,767. -/
def EpochTable.recordMark (t : EpochTable) (kind : MarkKind) (phase : Int) : EpochTable :=
  t.mapOpen fun r => { r with markKind := kind, markPhase := some (clampInt (-32767) 32767 phase) }

/-- Whether a cell counts as holding a report (R86). -/
def Cell.received (c : Cell) : Bool := c.state == .received

/-- The report of a cell that is RECEIVED. -/
def Cell.reportIn (c : Cell) : Option Report := if c.received then c.report else none

/-- The reports that a row holds, by station number (R86). -/
def Row.reportOf (r : Row) (k : Station) : Option Report := r.cells[k].reportIn

/-- The station numbers in ascending order. -/
def stations : List Station := [0, 1, 2, 3, 4, 5, 6, 7]

/-- The leader's report of a row: the report of the row leader, when it is not the own station (R17). -/
def Row.leadersReport (r : Row) (own : Option Station) : Option Report :=
  match r.leader with
  | some k => if own = some k then none else r.reportOf k
  | none => none

/-! ### The election (R38, R39) -/

/-- The stations whose cells in the row are RECEIVED. -/
def Row.candidates (r : Row) : List Station := stations.filter fun k => (r.reportOf k).isSome

/-- A candidate's rank. -/
def Row.rankOf (r : Row) (k : Station) : Nat :=
  match r.reportOf k with
  | some x => x.rank
  | none => 0

/-- Whether a station's report in the row carries led flag true. -/
def Row.saidLed (r : Row) (k : Station) : Bool := (r.reportOf k).any Report.led

/-- The stations whose reports carry led flag true. -/
def Row.ledStations (r : Row) : List Station := stations.filter r.saidLed

/-- The one candidate that led, when there is exactly one (R39). -/
def Row.incumbent (r : Row) : Option Station :=
  match r.ledStations with
  | [k] => some k
  | _ => none

/-- The lowest rank among candidates (R39). -/
def Row.bestRank (r : Row) : Nat :=
  match r.candidates.map r.rankOf with
  | x :: rest => rest.foldl min x
  | [] => 0

/-- The candidate of best rank with the lowest station number (R39). -/
def Row.bestCandidate (r : Row) : Option Station := (r.candidates.filter fun k => r.rankOf k == r.bestRank).head?

/-- The summary OR holds DOUBT. -/
def Row.doubt (r : Row) : Bool := r.summaryOr.getLsbD 2

/-- The summary OR holds JOINING. -/
def Row.joining (r : Row) : Bool := r.summaryOr.getLsbD 3

/-- The summary OR holds ATTENDED. -/
def Row.attended (r : Row) : Bool := r.summaryOr.getLsbD 0

/-- The next leader that a closing row elects (R39). -/
def Row.elect (r : Row) : Option Station :=
  match r.incumbent with
  | none => r.bestCandidate
  | some k =>
    if r.doubt then r.bestCandidate
    else if r.joining then some k
    else if r.rankOf k ≤ r.bestRank then some k
    else r.bestCandidate

/-- The stations that said led are not exactly the current leader (R38). -/
def Row.disagrees (r : Row) (current : Option Station) : Bool := decide (r.ledStations ≠ current.toList)

/-- The mark unit at a row close (R36, R38, R40): the count, the flag and the result of the election, which the next boundary, or the step
of a cut, makes the current leader. -/
def MarkUnit.close (m : MarkUnit) (r : Row) : MarkUnit :=
  { m with leaderless := if r.markKind = .leader then 0 else countUp 65535 m.leaderless
           disagreement := r.disagrees m.currentLeader
           nextLeader := r.elect }

/-! ### Watches (R28, R29, R33) -/

/-- Whether a position against a boundary lies in the acceptance span, which is also the span of the rises of R33. -/
def inSpan (p : Int) : Bool := decide (Config.spanStart ≤ p) && decide (p < Config.spanEnd)

/-- Which watch a position of the epoch in progress belongs to: that of the boundary to come from −2 ms on, else the current one. -/
def ofNextWatch (p : Int) : Bool := decide (Config.foldPoint ≤ p)

/-- A rise is kept as the latest one, and is seen by the watch whose span from −2 ms up to +5 ms it lies in (R33). -/
def MarkUnit.seeRise (m : MarkUnit) (tb : Timebase) (p : Int) : MarkUnit :=
  let m := { m with lastRise := some p }
  if inSpan (tb.fold p) then
    if ofNextWatch p then { m with nextWatch := { m.nextWatch with riseSeen := true } }
    else { m with watch := { m.watch with riseSeen := true } }
  else m

/-- Whether a pulse with this attributed boundary is taken: it lies in the span of a watch that holds no mark yet (R29). -/
def MarkUnit.takes (m : MarkUnit) (tb : Timebase) (p : Int) : Bool :=
  inSpan (tb.fold p) && (if ofNextWatch p then !m.nextWatch.taken else m.watch.isOpen && !m.watch.taken)

/-- The watch that takes a pulse holds it (R29). -/
def MarkUnit.take (m : MarkUnit) (p : Int) : MarkUnit :=
  if ofNextWatch p then { m with nextWatch := { m.nextWatch with taken := true } }
  else { m with watch := { m.watch with taken := true } }

/-- Rises are measured from a new own boundary, `shift` ticks after the old one. -/
def MarkUnit.rebase (m : MarkUnit) (shift : Int) : MarkUnit :=
  { m with pulse := m.pulse.map fun p => { p with rise := p.rise - shift }, lastRise := m.lastRise.map fun p => p - shift }

/-- The watch that a boundary opens (R28, R29): at a counted boundary the one that opened at −2 ms; at a step a fresh one, which holds the
mark that caused the step, considers a pulse in progress, and has seen a rise from 2 ms before its boundary on. -/
def MarkUnit.openWatch (m : MarkUnit) (kind : BoundaryKind) : Watch :=
  match kind with
  | .counted => { m.nextWatch with isOpen := true }
  | .referenceStep => { isOpen := true, taken := false, riseSeen := m.lastRise.any inSpan }
  | .markStep => { isOpen := true, taken := true, riseSeen := true }

/-- The mark unit at an own boundary (R28, R30 to R32, R34, R37, R40): the leader held becomes the current one, the flags clear, a leader
drives its mark when the pair is released and stands down when it is asserted, and a watch opens. `leads` is judged on the leader
promoted here; `byFallback` says that a fallback mark caused the step. The next leader holds none until the next close (log 33). -/
def MarkUnit.boundary (m : MarkUnit) (kind : BoundaryKind) (leads asserted byFallback : Bool) : MarkUnit :=
  { m with currentLeader := m.nextLeader, nextLeader := none
           contention := leads && asserted, led := leads && !asserted, fallback := byFallback
           drive := if leads && !asserted then .leader else m.drive
           watch := m.openWatch kind, nextWatch := Watch.fresh }

end Sys2Proof.Machine
end

