-- ==== Sys2Proof/Machine/MemberOps.lean ====
section
/-! DEFINITION. Operations of the membership unit (chapter 4): the chain, the roster, and what the unit does at a boundary and at a
close. -/

namespace Sys2Proof.Machine

/-- Mark events discipline the timebase of a JOINING, MEMBER or CONFLICT station that is not leader (R5). -/
def Member.follows (m : Member) : Bool :=
  match m.state with
  | .joining | .member | .conflict => true
  | .unnumbered | .halted => false

/-- Whether the station leads an epoch whose elected leader is given (R16, R41). -/
def Member.leads (m : Member) (leader : Option Station) : Bool :=
  decide (m.state = .member) && m.number.isSome && decide (leader = m.number)

/-! ### The chain (R66 to R70) -/

/-- A completed word is valid (R67). -/
def chainWordValid (number complement : BitVec 4) (stopAsserted : Bool) : Bool :=
  !stopAsserted && decide (complement = ~~~number) && decide (1 ≤ number.toNat) && decide (number.toNat ≤ 7)

/-- The chain number that a valid word carrying n names: n + 1 (R67). -/
def chainNumber (number : BitVec 4) : Station := ⟨number.toNat % 8, Nat.mod_lt _ (by decide)⟩

/-- Whether the station takes words from the chain (R64, R66): CHAIN mode, not the head, not HALTED. -/
def chained (setup : Setup) (m : Member) : Bool :=
  decide (setup.fixedNumber = none) && !m.head && decide (m.state ≠ .halted)

/-- What a completed word does to a chained station (R68, R69): the unit, and whether a number is adopted. Adoption itself moves the
membership state and is applied by the caller. -/
structure WordOutcome where
  member : Member
  adopted : Option Station
deriving DecidableEq, Repr

/-- The renumber run is broken. -/
def Member.clearRun (m : Member) : Member := { m with candidate := none, repeatCount := 0 }

/-- A valid word that names a chain number, judged against the number held (R68, R69). -/
def Member.hear (m : Member) (named : Station) : WordOutcome :=
  match m.number with
  | none => { member := m, adopted := some named }
  | some own =>
    if named = own then { member := m.clearRun, adopted := none }
    else if m.candidate = some named then
      if 3 ≤ m.repeatCount + 1 then { member := m.clearRun, adopted := some named }
      else { member := { m with repeatCount := m.repeatCount + 1 }, adopted := none }
    else { member := { m with candidate := some named, repeatCount := 1 }, adopted := none }

/-- A number adopted: the station is JOINING with both joining counts at 0 and the conflict count at 0 (R68, R72, R73, R76, R77). -/
def Member.adopt (m : Member) (number : Station) : Member :=
  { m with number := some number, state := .joining, markedCloses := 0, silentCloses := 0, conflictQuiet := 0 }

/-- A reading in progress on the chain is measured from a new own boundary, `shift` ticks after the old one; it goes on undisturbed (R66). -/
def ChainRx.rebase (x : ChainRx) (shift : Int) : ChainRx :=
  match x with
  | .hunting => .hunting
  | .reading rise cells => .reading (rise - shift) cells

/-- The chain-quiet count at an own boundary, and the instants of the words being sent and read measured from it (R65, R66, R70). DESIGN
CHOICE: a word that has completed when a step is taken counts for the epoch that the step ends, also where it completed after the
attributed boundary (log 39). -/
def Member.boundary (m : Member) (chained : Bool) (shift : Int) : Member :=
  { m with quiet := if chained && !m.wordSeen then countUp 255 m.quiet else m.quiet
           wordSeen := false
           chainRx := m.chainRx.rebase shift
           chainAfter := m.chainAfter - shift
           chainTx := m.chainTx.map fun w => { w with start := w.start - shift } }

/-! ### The roster (R79 to R81) -/

/-- The temperature records of a report (R79, R80). -/
def temperatureRecords (r : Report) : List TempRecord :=
  (r.entries.filter fun e => e.kind == .temp || e.kind == .fieldF).map fun e =>
    { index := e.index, kind := e.kind, quality := e.quality, value := e.value, valueEpoch := r.epoch - 2 }

/-- A roster entry after a close, from its cell (R80, R81). -/
def RosterEntry.close (e : RosterEntry) (c : Cell) : RosterEntry :=
  match c.reportIn with
  | some r =>
    { presence := .present, missed := 0, lastEpoch := some r.epoch, lastRank := some r.rank, lastAge := some r.sourceAge,
      lastState := some r.timeState, temps := temperatureRecords r }
  | none =>
    match e.presence with
    | .unseen => { e with missed := 0 }
    | .present => { e with presence := .missed, missed := 1 }
    | .missed => if 3 ≤ e.missed + 1 then { e with presence := .gone, missed := 3 } else { e with missed := e.missed + 1 }
    | .gone => { e with missed := 3 }

/-! ### The close (R73, R77) -/

/-- A JOINING station counts a close by the row's mark kind and enters MEMBER at two marked or three silent ones (R73). -/
def Member.countJoin (m : Member) (kind : MarkKind) : Member :=
  if kind = .none then
    if 3 ≤ m.silentCloses + 1 then { m with state := .member, markedCloses := 0, silentCloses := 0 }
    else { m with silentCloses := m.silentCloses + 1, markedCloses := 0 }
  else
    if 2 ≤ m.markedCloses + 1 then { m with state := .member, markedCloses := 0, silentCloses := 0 }
    else { m with markedCloses := m.markedCloses + 1, silentCloses := 0 }

/-- A CONFLICT station counts the closes at which its own number's cell is EMPTY and enters JOINING at eight (R77). -/
def Member.countQuiet (m : Member) (own : CellState) : Member :=
  if own = .empty then
    if 8 ≤ m.conflictQuiet + 1 then { m with state := .joining, markedCloses := 0, silentCloses := 0, conflictQuiet := 0 }
    else { m with conflictQuiet := m.conflictQuiet + 1 }
  else { m with conflictQuiet := 0 }

/-- The state of the cell of the own number in a row. -/
def Row.ownState (r : Row) (own : Option Station) : CellState :=
  match own with
  | some k => r.cells[k].state
  | none => .empty

/-- The membership unit at a row close (R73, R77, R80, R81). -/
def Member.close (m : Member) (r : Row) : Member :=
  let m' := { m with roster := mapAllIdx m.roster fun k e => e.close r.cells[k] }
  match m.state with
  | .joining => m'.countJoin r.markKind
  | .conflict => m'.countQuiet (r.ownState m.number)
  | .unnumbered | .member | .halted => m'

end Sys2Proof.Machine
end

