-- ==== Sys2Proof/Machine/CorrectionOps.lean ====
section
/-! DEFINITION. Operations of the correction unit (chapter 8): temperature sources, the bin decision, glides, the corrected value, and
the field check. -/

namespace Sys2Proof.Machine

/-! ### Bin tables (R135) -/

/-- The row that contains a temperature, counting from `r` (R135). -/
def containingFrom (t : Int) : Nat → List BinRow → Nat
  | r, [] => r
  | r, [_] => r
  | r, _ :: b :: rest => if t < b.edge then r else containingFrom t (r + 1) (b :: rest)

/-- The row of a bin table that contains a temperature (R135). -/
def rowContaining (rows : List BinRow) (t : Int) : Nat := containingFrom t 0 rows

/-- A row of a bin table. -/
def ChannelSetup.row (c : ChannelSetup) (r : Nat) : BinRow := c.rows.getD r BinRow.default

/-! ### Temperature sources (R136, R137) -/

/-- The value range of reports and corrected values (R149). -/
def limit32 (v : Int) : Int := clampInt (-2147483648) 2147483647 v

/-- A LOCAL temperature: the TEMP channel's epoch value of the same boundary, unless none or FAULT (R136). -/
def localTemperature (v : Option EpochValue) : Option Int :=
  match v with
  | some x => if x.mark = .fault then none else some x.value
  | none => none

/-- The age of a value epoch at the boundary that begins `epoch` (R137). -/
def valueAge (epoch valueEpoch : EpochNumber) : Nat := (epoch - 2 - valueEpoch).toNat

/-- A PEER temperature from a roster entry, or none when it is stale (R137). -/
def peerTemperature (e : RosterEntry) (c : Channel) (epoch : EpochNumber) (staleLimit : Nat) : Option Int :=
  if e.presence = .unseen ∨ e.presence = .gone then none
  else
    match e.temps.find? fun r => decide (r.index = c) with
    | none => none
    | some r =>
      if r.kind ≠ .temp ∨ r.quality = .fault ∨ r.quality = .warming ∨ staleLimit < valueAge epoch r.valueEpoch then none
      else r.value

/-- The usable temperature of a channel's source, or none when it is stale. -/
def sourceTemperature (c : ChannelSetup) (dec : Vector DecChannel 4) (roster : Vector RosterEntry 8) (epoch : EpochNumber) :
    Option Int :=
  match c.source with
  | .none => none
  | .localChannel i => localTemperature dec[i].value
  | .peer k i => peerTemperature roster[k] i epoch c.staleLimit

/-! ### The bin decision and the applied coefficients (R139 to R147) -/

/-- A glide's applied values at its counter (R144). -/
def Glide.offsetAt (g : Glide) (length : Nat) : Int :=
  g.startOffset + ((g.targetOffset - g.startOffset) * g.counter).tdiv length

/-- A glide's applied scale at its counter (R144). -/
def Glide.scaleAt (g : Glide) (length : Nat) : Int :=
  g.startScale + ((g.targetScale - g.startScale) * g.counter).tdiv length

/-- The values of a row are applied at once, with no glide (R140, R143). -/
def CorrChannel.rest (x : CorrChannel) (row : BinRow) : CorrChannel :=
  { x with offset := row.offset, scale := row.scale, glide := none }

/-- A glide stands at its counter: its values are applied, and at i = G it ends (R144). -/
def CorrChannel.applyGlide (x : CorrChannel) (g : Glide) (length : Nat) : CorrChannel :=
  { x with offset := g.offsetAt length, scale := g.scaleAt length
           glide := if g.counter < length then some g else none }

/-- The bin changes to row `r`: at once in STEP mode, by a new glide from where the coefficients stand in GLIDE mode (R143 to R145). -/
def CorrChannel.changeBin (x : CorrChannel) (c : ChannelSetup) (r : Nat) : CorrChannel :=
  let x' := { x with bin := r }
  match c.glideLength with
  | none => x'.rest (c.row r)
  | some length =>
    x'.applyGlide
      { startOffset := x.offset, startScale := x.scale, targetOffset := (c.row r).offset, targetScale := (c.row r).scale, counter := 1 }
      length

/-- A running glide takes its next value (R144, R146). -/
def CorrChannel.advanceGlide (x : CorrChannel) (c : ChannelSetup) : CorrChannel :=
  match x.glide, c.glideLength with
  | some g, some length => x.applyGlide { g with counter := g.counter + 1 } length
  | _, _ => x

/-- The row that a selection gives, with hysteresis (R141). -/
def selectRow (c : ChannelSetup) (r : Nat) (t : Int) : Nat :=
  let up := match c.rows[r + 1]? with
    | some above => decide (above.edge + c.hysteresis ≤ t)
    | none => false
  let down := decide (0 < r) && decide (t < (c.row r).edge - c.hysteresis)
  if up || down then rowContaining c.rows t else r

/-- A bin decision, its coefficients moved, and the correction marking of the boundary. -/
structure Decision where
  channel : CorrChannel
  mark : CorrMark
deriving DecidableEq, Repr

/-- The bin decision of a channel at a correction boundary (R140 to R146): `temp` is the usable temperature, if any. -/
def CorrChannel.decideBin (x : CorrChannel) (c : ChannelSetup) (temp : Option Int) (attended : Bool) : Decision :=
  if c.source = .none then { channel := x, mark := .none }
  else if !x.snapped then
    match temp, attended with
    | some t, false =>
      let r := rowContaining c.rows t
      { channel := ({ x with bin := r, snapped := true, freeze := .none } : CorrChannel).rest (c.row r), mark := .none }
    | _, _ => { channel := x, mark := .uncorrected }
  else
    match temp, attended with
    | some t, false =>
      let x := { x with freeze := .none }
      let r := selectRow c x.bin t
      { channel := if r = x.bin then x.advanceGlide c else x.changeBin c r, mark := .none }
    | some _, true => { channel := ({ x with freeze := .attended } : CorrChannel).advanceGlide c, mark := .staleTemp }
    | none, _ => { channel := ({ x with freeze := .stale } : CorrChannel).advanceGlide c, mark := .staleTemp }

/-- The corrected figure before its limit (R148). -/
def correctedFigure (c : ChannelSetup) (x : CorrChannel) (v : Int) : Int :=
  if c.kind = .fieldF ∧ c.source = .none then v else ((v - x.offset) * (100000000 + x.scale)).tdiv 100000000

/-- The correction unit's channel at an own boundary (R139, R148 to R150). -/
def CorrChannel.boundary (x : CorrChannel) (c : ChannelSetup) (value : Option EpochValue) (temp : Option Int) (attended : Bool) :
    CorrChannel :=
  match value with
  | none => { x with corrected := none }
  | some v =>
    match c.kind with
    | .fieldX | .fieldY | .fieldZ | .fieldF =>
      let d := x.decideBin c temp attended
      { d.channel with corrected := some { value := limit32 (correctedFigure c d.channel v.value), mark := v.mark, corr := d.mark } }
    | .temp => { x with corrected := some { value := limit32 v.value, mark := v.mark, corr := .none } }
    | .off => { x with corrected := none }

/-- The quality of a channel's entry (R95, R150). -/
def qualityOf (corrected : Option Corrected) : Quality :=
  match corrected with
  | none => .warming
  | some v =>
    match v.mark, v.corr with
    | .fault, _ => .fault
    | .clipped, _ => .clipped
    | .held, _ => .held
    | .none, .staleTemp => .staleTemp
    | .none, .uncorrected => .uncorrected
    | .none, .none => .good

/-! ### The field check (R151 to R155) -/

/-- The entry of lowest index of a kind in a report (R151). -/
def Report.entryOfKind (r : Report) (k : ChannelKind) : Option ChannelEntry := r.entries.find? fun e => decide (e.kind = k)

/-- The value of an entry of quality GOOD (R152). -/
def goodValue (e : Option ChannelEntry) : Option Int :=
  match e with
  | some e => if e.quality = .good then e.value else none
  | none => none

/-- The value of a report's FIELD_F entry of a channel index, when its quality is GOOD (R152). -/
def Report.scalarValue (r : Report) (c : Channel) : Option Int :=
  goodValue (r.entries.find? fun e => decide (e.index = c) && decide (e.kind = .fieldF))

/-- The own report of a row when its own cell is RECEIVED (R51, R152; log 24). -/
def Row.ownReceived (r : Row) (own : Option Station) : Option Report :=
  match own with
  | some k => if r.cells[k].own then r.reportOf k else none
  | none => none

/-- The scalar value of a pair, with the reference it is taken from (R152, R155). -/
structure Scalar where
  value : Int
  station : Nat
  channel : Channel
deriving DecidableEq, Repr

/-- The scalar of a row for a reference (R152). -/
def Row.scalar (r : Row) (own : Option Station) (ownReport : Report) (reference : Source) : Option Scalar :=
  match reference with
  | .none => none
  | .localChannel c => (ownReport.scalarValue c).map fun v => { value := v, station := stationByte own, channel := c }
  | .peer k c =>
    match r.reportOf k with
    | none => none
    | some x =>
      if x.epoch = ownReport.epoch then (x.scalarValue c).map fun v => { value := v, station := stationNumber k, channel := c }
      else none

/-- ΔF = F − |B|, limited (R153). -/
def deltaF (f x y z : Int) : Int := limit32 (f - nearestSqrt (x * x + y * y + z * z).toNat)

/-- The pair of a closing row, evaluated: ΔF with its reference, or none when the pair is missing (R152, R153). -/
def Row.evaluate (r : Row) (own : Option Station) (reference : Source) : Option DeltaF :=
  if r.attended then none
  else
    match r.ownReceived own with
    | none => none
    | some mine =>
      match goodValue (mine.entryOfKind .fieldX), goodValue (mine.entryOfKind .fieldY), goodValue (mine.entryOfKind .fieldZ),
          r.scalar own mine reference with
      | some x, some y, some z, some s => some { value := deltaF s.value x y z, station := s.station, channel := s.channel }
      | _, _, _, _ => none

/-- An evaluation is out of tolerance (R153). -/
def outOfTolerance (c : CheckSetup) (d : Int) : Bool := decide (c.tolerance < (d - c.expected).natAbs)

/-- The field check at a row close (R154, R155). -/
def FieldCheck.close (k : FieldCheck) (c : CheckSetup) (evaluated : Option DeltaF) : FieldCheck :=
  match evaluated with
  | none => { k with last := none }
  | some d =>
    let out := outOfTolerance c d.value
    let outCount := if out then (if k.outCount < 255 then k.outCount + 1 else 255) else 0
    let inCount := if out then 0 else (if k.inCount < 255 then k.inCount + 1 else 255)
    { outCount := outCount, inCount := inCount
      drift := if k.drift then !decide (c.count ≤ inCount) else decide (c.count ≤ outCount), last := some d }

end Sys2Proof.Machine
end

