-- ==== Sys2Proof/Machine/Flags.lean ====
section
/-! DEFINITION. The sixteen conditions: which hold, how they rise, the notice set, ATTN and the summary bits (R98, R188 to R191, R37,
R60). -/

namespace Sys2Proof.Machine

/-- The sixteen conditions (R188). -/
inductive Condition where
  | timeStep | relabeled | contention | rebias | saturated | held | warming | gliding
  | staleTemp | attended | fieldDrift | archiveFull | archiveOverrun | chainFault | chainLost | setupFault
deriving DecidableEq, Repr

/-- The bit of a condition in a condition set (section 12.2). -/
def Condition.bit : Condition → Nat
  | .timeStep => 0 | .relabeled => 1 | .contention => 2 | .rebias => 3 | .saturated => 4 | .held => 5 | .warming => 6
  | .gliding => 7 | .staleTemp => 8 | .attended => 9 | .fieldDrift => 10 | .archiveFull => 11 | .archiveOverrun => 12
  | .chainFault => 13 | .chainLost => 14 | .setupFault => 15

/-- The set that holds one condition, or none. -/
def Condition.only (c : Condition) (present : Bool) : ConditionSet := if present then 1#16 <<< c.bit else 0#16

/-- Whether some channel has a property. -/
def anyChannel (p : Channel → Bool) : Bool := p 0 || p 1 || p 2 || p 3

/-- SATURATED: some vector channel is in saturation (R110). -/
def State.saturatedHolds (s : State) : Bool := anyChannel fun i => s.front[i].saturated

/-- WARMING: some channel is warming (R128). -/
def State.warmingHolds (s : State) : Bool := anyChannel fun i => s.dec[i].warming

/-- GLIDING: a glide runs on some channel (R147). -/
def State.glidingHolds (s : State) : Bool := anyChannel fun i => s.corr[i].glide.isSome

/-- STALE_TEMP: some channel's freeze cause is STALE (R142). -/
def State.staleTempHolds (s : State) : Bool := anyChannel fun i => s.corr[i].freeze == .stale

/-- ATTENDED: an ATTEND input was sampled asserted at the last own boundary (R100, R116). -/
def State.attendedHolds (s : State) : Bool :=
  (s.setup.inputs[0].function == .attend && s.events.sampled[0]) || (s.setup.inputs[1].function == .attend && s.events.sampled[1])

/-- CHAIN_LOST: the chain-quiet count stands at 3 or more (R70). -/
def State.chainLostHolds (s : State) : Bool := decide (3 ≤ s.member.quiet)

/-- SETUP_FAULT: either share holds (R197). -/
def State.setupFaultHolds (s : State) : Bool := s.setup.recordFault || s.setup.tableFault

/-- The holding conditions that hold (R98). -/
def State.holding (s : State) : ConditionSet :=
  Condition.only .saturated s.saturatedHolds ||| Condition.only .warming s.warmingHolds |||
  Condition.only .gliding s.glidingHolds ||| Condition.only .staleTemp s.staleTempHolds |||
  Condition.only .attended s.attendedHolds ||| Condition.only .fieldDrift s.check.drift |||
  Condition.only .chainLost s.chainLostHolds ||| Condition.only .setupFault s.setupFaultHolds

/-- The current condition set: what holds, and the raised record (R98). -/
def State.currentConditions (s : State) : ConditionSet := s.holding ||| s.raised

/-- Conditions rise: they enter the raised record and their notices become pending (R98, R188). -/
def State.rise (s : State) (c : ConditionSet) : State :=
  (s.setRaised (s.raised ||| c)).setPort { s.port with notices := s.port.notices ||| c }

/-- A raised condition is raised. -/
def State.raise (s : State) (c : Condition) : State := s.rise (Condition.only c true)

/-- A raised condition is raised when something holds. -/
def State.raiseIf (s : State) (b : Bool) (c : Condition) : State := s.rise (Condition.only c b)

/-- The holding conditions that hold after a command and did not before it rise (R98). -/
def State.latchFrom (after before : State) : State := after.rise (after.holding &&& ~~~before.holding)

/-- An unmasked notice is pending (R190). -/
def State.unmaskedPending (s : State) : Bool := (s.port.notices &&& ~~~s.setup.noticeMask) != 0#16

/-- The ATTN output (R190, R191); released until a start completes (R200). -/
def State.attn (s : State) : Bool :=
  s.phase == .running && (s.unmaskedPending || s.member.state == .halted)

/-- The summary bits that hold for the station (R60). -/
def State.summaryBits (s : State) : SummarySet :=
  (if s.attendedHolds then 1#4 else 0#4) ||| (if s.unmaskedPending then 2#4 else 0#4) |||
  (if s.mark.contention || s.mark.fallback || s.mark.disagreement then 4#4 else 0#4) |||
  (if s.member.state = .joining then 8#4 else 0#4)

end Sys2Proof.Machine
end

