-- ==== Sys2Proof/Machine/ArchiveOps.lean ====
section
/-! DEFINITION. The report builder (chapter 5) and the operations of the archive (chapter 9): forming an entry, its words, the word
check, writing, removal, and the entry image. -/

namespace Sys2Proof.Machine

/-! ### The report builder (R91 to R97) -/

/-- The channel entry of a channel that is not OFF (R93 to R95). -/
def State.channelEntry (s : State) (i : Channel) : ChannelEntry :=
  let kind := s.setup.channels[i].kind
  let quality := qualityOf s.corr[i].corrected
  { index := i, kind := kind, quality := quality
    value := if quality.hasValue then s.corr[i].corrected.map Corrected.value else none
    vec := if kind.isVector then
        some { bias := s.front[i].bias, bin := s.corr[i].bin, gliding := s.corr[i].glide.isSome }
      else none }

/-- The channel entries of the report, in ascending channel index (R93). -/
def State.channelEntries (s : State) : List ChannelEntry :=
  (([0, 1, 2, 3] : List Channel).filter fun i => decide (s.setup.channels[i].kind ≠ .off)).map s.channelEntry

/-- The mark phase as a report carries it (R35, R92): −32,768 when not measured. -/
def State.openMarkPhase (s : State) : Int := ((s.table.openRow.bind Row.markPhase).getD (-32768))

/-- The own report as it is built at slot start (R92). -/
def State.buildReport (s : State) (k : Station) : Report :=
  { station := stationNumber k, epoch := s.tb.epochNumber, timeState := s.tb.timeState,
    rank := leadRank s.tb s.setup.holdoverHours, led := s.mark.led, sourceAge := s.tb.sourceAge, markPhase := s.openMarkPhase,
    conditions := s.currentConditions, entries := s.channelEntries, deltaF := s.check.last }

/-! ### Entries and their words (R158 to R160, section 12.5) -/

/-- The report body of an entry: the own report as built, whatever the outcome of its transmission (R160). -/
def Cell.entryBody (c : Cell) : List Byte :=
  if c.own && decide (c.state ≠ .empty) then
    match c.report with
    | some r => encodeReport r
    | none => []
  else []

/-- The presence mask of a row: bit k − 1 for station number k (R159). -/
def Row.presenceMask (r : Row) : BitVec 8 :=
  BitVec.ofNat 8 ((stations.map fun k => if r.cells[k].received then 2 ^ k.val else 0).sum)

/-- The entry formed at a close (R159). -/
def formEntry (seq : Nat) (r : Row) (own : Option Station) (edgeSeen : Bool) : Entry :=
  { seq := seq, epoch := r.epoch, leader := r.leader, markKind := r.markKind, summaryOr := r.summaryOr, cut := r.cut,
    ownCell := r.ownState own, presence := r.presenceMask, marker := edgeSeen
    body := match own with
      | some k => r.cells[k].entryBody
      | none => [] }

/-- The entry image from its ninth field on: everything but sequence number and read status (section 12.5). -/
def Entry.tail (e : Entry) : List Byte :=
  leBytes 4 e.epoch.toNat ++
  [byte (stationByte e.leader + 16 * e.summaryOr.toNat),
   byte (e.markKind.code + 4 * flag e.cut + 8 * flag e.marker + 16 * e.ownCell.code), byte e.presence.toNat] ++
  uField 1 e.body.length ++ padTo 48 e.body

/-- The fields of an entry in the 56 bytes from offset 5 of an image, taken from the bytes of its words as read (R172, R204): bit 7 of offset
10, which the layout does not assign, and the bytes after the report body are 0, also where a word was read with an error (log 37). -/
def entryFields (bytes : List Byte) : List Byte :=
  let b := padTo 56 bytes
  b.take 5 ++ ((b.getD 5 0 &&& 0x7F#8) :: (b.drop 6).take 2) ++ padTo 48 ((b.drop 8).take (b.getD 7 0).toNat)

/-- The 61 bytes of an entry image. -/
def entryImageBytes (seq : Nat) (status : ReadStatus) (tail : List Byte) : List Byte :=
  uField 4 seq ++ byte status.code :: padTo 56 tail

/-- The eight words of an entry as they are written: its image with read status 0 and three zero bytes after it (log 15). -/
def Entry.words (e : Entry) : List EntryWord :=
  let bytes := padTo 64 (entryImageBytes e.seq .none e.tail)
  (List.range 8).map fun i =>
    let w := BitVec.ofNat 64 (leNat ((bytes.drop (8 * i)).take 8))
    { written := w, held := w }

/-! ### The word check (R170) -/

/-- The number of bits in error in a word. -/
def EntryWord.errors (w : EntryWord) : Nat := ((List.range 64).filter (w.written ^^^ w.held).getLsbD).length

/-- A word as used, its read status, and the count of reads with a free value. -/
structure WordRead where
  value : BitVec 64
  status : ReadStatus
  freeReads : Nat
deriving DecidableEq, Repr

/-- The status that a free value names: any of the three (R170). -/
def freeStatus (n : Nat) : ReadStatus :=
  match Config.freeWordStatus n % 3 with
  | 0 => .clean
  | 1 => .corrected
  | _ => .damaged

/-- One word read and tested: no error, one bit corrected, two bits detected and used as read, more bits free (R170). -/
def EntryWord.read (w : EntryWord) (freeReads : Nat) : WordRead :=
  match w.errors with
  | 0 => { value := w.held, status := .clean, freeReads := freeReads }
  | 1 => { value := w.written, status := .corrected, freeReads := freeReads }
  | 2 => { value := w.held, status := .damaged, freeReads := freeReads }
  | _ => { value := Config.freeWordValue freeReads, status := freeStatus freeReads, freeReads := freeReads + 1 }

/-- The worse of two read statuses, in the order DAMAGED, CORRECTED, CLEAN (R170). -/
def ReadStatus.worse (a b : ReadStatus) : ReadStatus :=
  if a = .damaged ∨ b = .damaged then .damaged else if a = .corrected ∨ b = .corrected then .corrected else .clean

/-- A slot as read: its bytes, the worst status over its words, and the count of reads with a free value. -/
structure SlotRead where
  bytes : List Byte
  status : ReadStatus
  freeReads : Nat
deriving DecidableEq, Repr

/-- Every word of a slot read (R170). -/
def readWords : List EntryWord → Nat → SlotRead
  | [], n => { bytes := [], status := .clean, freeReads := n }
  | w :: rest, n =>
    let r := w.read n
    let after := readWords rest r.freeReads
    { bytes := leBytes 8 r.value.toNat ++ after.bytes, status := r.status.worse after.status, freeReads := after.freeReads }

/-! ### Pointers, writing and removal (R161 to R168) -/

/-- The kept count (R168). -/
def Retention.keptCount (m : Retention) : Nat := m.slots.length

/-- The unreleased count (R168). -/
def Retention.unreleasedCount (m : Retention) : Nat := (m.slots.filter fun x => decide (m.releasePoint < x.seq)).length

/-- The slot after the slot of newest; slot 0 while the archive holds no entry (R158). -/
def Retention.nextSlot (m : Retention) : Nat :=
  match m.slots.getLast? with
  | some x => (x.index + 1) % Config.archiveSlots
  | none => 0

/-- The entry at oldest kept is removed, and oldest kept moves to the next (R163). -/
def Retention.removeOldest (m : Retention) : Retention :=
  let rest := m.slots.drop 1
  { m with slots := rest
           oldestKept := match rest with
             | x :: _ => x.seq
             | [] => m.oldestKept }

/-- The entry at oldest kept is released (R163). -/
def Retention.oldestReleased (m : Retention) : Bool :=
  match m.slots with
  | x :: _ => decide (x.seq ≤ m.releasePoint)
  | [] => false

/-- A completed write: the entry is present, newest is its number, and the first entry is also oldest kept (R166). DESIGN CHOICE: the
directory place and the pointer record are written at that instant (log 40). -/
def Retention.complete (m : Retention) (slot : Nat) (e : Entry) : Retention :=
  { m with slots := m.slots ++ [{ index := slot, seq := e.seq, words := e.words }]
           newest := e.seq
           oldestKept := if m.slots.isEmpty then e.seq else m.oldestKept }

/-- The read cursor follows oldest kept when it would stand below it (R173). -/
def Port.follow (p : Port) (oldestKept : Nat) : Port := { p with cursor := max p.cursor oldestKept }

/-- A formed entry joins the queue unless it already holds four (R162). -/
def Archive.join (a : Archive) (e : Entry) : Archive :=
  if a.queue.length < Config.queueLength then { a with queue := a.queue ++ [e] } else a

/-- The archive at a row close of a MEMBER (R159, R161, R162): a number is consumed and the entry joins the queue or is dropped; at
0xFFFFFFFF none is formed and ARCHIVE_FULL is raised. DESIGN CHOICE: the pointer record is written at that instant (log 40). -/
def State.archiveClose (s : State) (r : Row) (own : Option Station) (edgeSeen : Bool) : State :=
  let seq := s.retention.nextSeq
  if seq < maxCount32 then
    (s.setRetention { s.retention with nextSeq := seq + 1 }).setArchive (s.archive.join (formEntry seq r own edgeSeen))
  else s.raise .archiveFull

/-- The head entry's write begins in the slot after the slot of newest (R163). -/
def State.beginWrite (s : State) : State := s.setArchive { s.archive with writing := some s.retention.nextSlot }

/-- The oldest entry gives way, the cursor follows, and the write begins in its slot (R163, R173). DESIGN CHOICE: its directory place and
the pointer record are written at that instant (log 40). -/
def State.replaceOldest (s : State) : State :=
  let m := s.retention.removeOldest
  ((s.setRetention m).setPort (s.port.follow m.oldestKept)).beginWrite

/-- The head of the write queue begins its write (R163 to R165). -/
def State.writeStart (s : State) : State :=
  match s.archive.queue, s.archive.writing with
  | _ :: rest, none =>
    if s.retention.keptCount < Config.archiveSlots then s.beginWrite
    else if s.retention.oldestReleased then s.replaceOldest
    else if s.setup.keepNewest then s.replaceOldest.raise .archiveOverrun
    else (s.setArchive { s.archive with queue := rest }).raise .archiveFull
  | _, _ => s

/-- The write in progress completes (R166, R173). -/
def State.writeComplete (s : State) : State :=
  match s.archive.queue, s.archive.writing with
  | e :: rest, some slot =>
    let m := s.retention.complete slot e
    let s' := (s.setRetention m).setArchive { queue := rest, writing := none }
    if s.retention.slots.isEmpty then s'.setPort (s'.port.follow m.oldestKept) else s'
  | _, _ => s

/-! ### The entry image (R172) -/

/-- What READ ENTRIES forms next: an image, the sequence number of the entry that it shows, and the count of reads with a free value. -/
structure EntryImage where
  bytes : List Byte
  entry : Option Nat
  freeReads : Nat
deriving DecidableEq, Repr

/-- The image of what stands at or above the cursor (R172), its fields those of the words as read (R170, R204). -/
def State.nextEntryImage (s : State) : EntryImage :=
  match s.retention.slots.find? fun x => decide (s.port.cursor ≤ x.seq) with
  | some x =>
    let r := readWords x.words s.freeReads
    { bytes := entryImageBytes x.seq r.status (entryFields (r.bytes.drop 5)), entry := some x.seq, freeReads := r.freeReads }
  | none =>
    match s.archive.queue, s.archive.writing with
    | e :: _, some _ => { bytes := entryImageBytes e.seq .inWrite [], entry := none, freeReads := s.freeReads }
    | _, _ => { bytes := entryImageBytes s.port.cursor .none [], entry := none, freeReads := s.freeReads }

end Sys2Proof.Machine
end

