-- ==== Sys2Proof/Machine/SetupRecord.lean ====
section
/-! DEFINITION. The setup record (section 12.6) and its validation at a start (R193 to R197, R131): the settings that a start takes
into force. -/

namespace Sys2Proof.Machine

/-! ### Reading fields -/

/-- The `n`-byte unsigned field at an offset. -/
def uAt (record : List Byte) (at' n : Nat) : Nat := leNat ((record.drop at').take n)

/-- The `n`-byte signed field at an offset. -/
def sAt (record : List Byte) (at' n : Nat) : Int := signedOf n (uAt record at' n)

/-- `n` signed 16-bit coefficients from an offset on. -/
def coefficientsAt (record : List Byte) (at' n : Nat) : List Int := (List.range n).map fun i => sAt record (at' + 2 * i) 2

/-- A validated value, and whether it replaced the field of the record. -/
structure Checked (α : Type) where
  value : α
  replaced : Bool
deriving DecidableEq, Repr

/-- A field that the kind in force uses is judged and, out of range, replaced by its default; an unused field is not judged (R195,
R196). -/
def checked {α : Type} (used ok : Bool) (v dflt : α) : Checked α :=
  if used && ok then { value := v, replaced := false } else { value := dflt, replaced := used }

/-- Offset of a channel setup in the record. -/
def channelAt (i : Channel) : Nat := 6 + 221 * i.val

/-! ### Channel kinds, sources and bin tables -/

/-- A channel's kind, judged first (R196). -/
def checkedKind (record : List Byte) (i : Channel) : Checked ChannelKind :=
  match ChannelKind.ofCode (uAt record (channelAt i) 1) with
  | some k => { value := k, replaced := false }
  | none => { value := .off, replaced := true }

/-- A source as its kind byte and reference byte give it; none for a code or a station that names nothing (R134, R151). -/
def sourceOf (kind ref : Nat) : Option Source :=
  let channel : Channel := ⟨ref / 16 % 4, Nat.mod_lt _ (by decide)⟩
  match kind with
  | 0 => some .none
  | 1 => some (.localChannel channel)
  | 2 =>
    match ref % 16 with
    | 0 => none
    | k + 1 => if h : k < 8 then some (.peer ⟨k, h⟩ channel) else none
  | _ => none

/-- Whether a source may stand: a LOCAL one must name a channel whose kind in force is `needed` (R195, R196). -/
def sourceOk (kinds : Vector ChannelKind 4) (needed : ChannelKind) : Option Source → Bool
  | none => false
  | some .none => true
  | some (.localChannel c) => kinds[c] == needed
  | some (.peer _ _) => true

/-- A number lies in a closed range. -/
def within (lo hi v : Int) : Bool := decide (lo ≤ v) && decide (v ≤ hi)

/-- Row `r` of a bin table whose rows begin at an offset. -/
def binRowAt (record : List Byte) (at' r : Nat) : BinRow :=
  { edge := sAt record (at' + 12 * r) 4, offset := sAt record (at' + 12 * r + 4) 4, scale := sAt record (at' + 12 * r + 8) 4 }

/-- The ranges of a row (R134). -/
def BinRow.inRange (r : BinRow) : Bool :=
  within (-60000) 80000 r.edge && within (-100000000) 100000000 r.offset && within (-1000000) 1000000 r.scale

/-- The lower edges stand in strictly ascending order (R134). -/
def edgesAscend : List BinRow → Bool
  | [] => true
  | [_] => true
  | a :: b :: rest => decide (a.edge < b.edge) && edgesAscend (b :: rest)

/-- A channel's bin table, judged whole; rows beyond the row count are not judged (R195). -/
def checkedRows (record : List Byte) (i : Channel) (used : Bool) : Checked (List BinRow) :=
  let n := uAt record (channelAt i + 28) 1
  let rows := (List.range n).map (binRowAt record (channelAt i + 29))
  checked used (decide (1 ≤ n) && decide (n ≤ 16) && rows.all BinRow.inRange && edgesAscend rows) rows [BinRow.default]

/-- A channel's mode: none is STEP, some G is GLIDE (R195). -/
def checkedMode (record : List Byte) (i : Channel) (used : Bool) : Checked (Option Nat) :=
  let mode := uAt record (channelAt i + 23) 1
  let g := uAt record (channelAt i + 24) 1
  checked used (mode == 0 || (mode == 1 && decide (2 ≤ g))) (if mode == 1 then some g else none) none

/-- A channel's setup, judged against the kinds in force (R195, R196). -/
def checkedChannel (record : List Byte) (kinds : Vector ChannelKind 4) (i : Channel) : Checked ChannelSetup :=
  let kind := kinds[i]
  let o := channelAt i
  let field := kind.isField
  let weight := checked field (within 1 1000 (uAt record (o + 1) 2)) (uAt record (o + 1) 2) 1
  let unit := checked kind.isVector (within 1 100000000 (uAt record (o + 3) 4)) (uAt record (o + 3) 4) 1000000
  let threshold := checked kind.isVector (within 1 8388606 (uAt record (o + 7) 4)) (uAt record (o + 7) 4) 4194304
  let given := sourceOf (uAt record (o + 19) 1) (uAt record (o + 20) 1)
  let source := checked field (sourceOk kinds .temp given) (given.getD .none) .none
  let rows := checkedRows record i field
  let hysteresis := checked field (within 0 2000 (uAt record (o + 21) 2)) (uAt record (o + 21) 2) 0
  let mode := checkedMode record i field
  let stale := checked field (within 1 600 (uAt record (o + 25) 2)) (uAt record (o + 25) 2) 60
  let start := checked field (decide (uAt record (o + 27) 1 < rows.value.length)) (uAt record (o + 27) 1) 0
  { value :=
      { kind := kind, weight := weight.value, biasUnit := unit.value, threshold := threshold.value,
        gain := sAt record (o + 11) 4, offset := sAt record (o + 15) 4, source := source.value, rows := rows.value,
        hysteresis := hysteresis.value, glideLength := mode.value, staleLimit := stale.value, startBin := start.value }
    replaced := weight.replaced || unit.replaced || threshold.replaced || source.replaced || rows.replaced ||
      hysteresis.replaced || mode.replaced || stale.replaced || start.replaced }

/-! ### Station settings, inputs and the field check -/

/-- The numbering mode: some number is FIXED, none is CHAIN (R195). -/
def checkedNumbering (record : List Byte) : Checked (Option Station) :=
  let b := uAt record 0 1
  if b / 128 % 2 = 0 then { value := none, replaced := false }
  else
    match b % 16 with
    | 0 => { value := none, replaced := true }
    | k + 1 => if h : k < 8 then { value := some ⟨k, h⟩, replaced := false } else { value := none, replaced := true }

/-- The setup of an event input (R195): its function byte and polarity byte stand at an offset. -/
def checkedInput (record : List Byte) (at' : Nat) : Checked InputSetup :=
  let f := uAt record at' 1
  let p := uAt record (at' + 1) 1
  { value :=
      { function := if f = 1 then .attend else if f = 2 then .marker else .off, assertedLow := p == 1 }
    replaced := decide (2 < f) || decide (1 < p) }

/-- The field-check setup, replaced whole when any of its four fields is out of range (R195). -/
def checkedCheck (record : List Byte) (kinds : Vector ChannelKind 4) : Checked CheckSetup :=
  let given := sourceOf (uAt record 991 1) (uAt record 992 1)
  let v : CheckSetup :=
    { reference := given.getD .none, expected := sAt record 993 4, tolerance := (uAt record 997 4 : Nat), count := uAt record 1001 1 }
  checked true
    (sourceOk kinds .fieldF given && within (-1000000) 1000000 v.expected && within 0 1000000 v.tolerance &&
      decide (1 ≤ v.count)) v
    Setup.halted.check

/-! ### The stage settings (R131) -/

/-- Stage settings taken into force, and whether a table was rejected. -/
def checkedStages (record : List Byte) (mean : Bool) : Checked StageSettings :=
  let t1 := coefficientsAt record 891 16
  let t2 := coefficientsAt record 923 32
  let bad1 := !mean && decide (t1.sum ≠ 65536)
  let bad2 := decide (t2.sum ≠ 65536)
  { value := { mean := mean || bad1, table1 := t1, table2 := if bad2 then List.replicate 32 2048 else t2 }
    replaced := bad1 || bad2 }

/-! ### The record -/

/-- The settings of an accepted record (R195 to R197). -/
def acceptedSetup (record : List Byte) : Setup :=
  let kindAt := fun i : Channel => checkedKind record i
  let kinds : Vector ChannelKind 4 := Vector.ofFn fun i => (kindAt i).value
  let chan := fun i : Channel => checkedChannel record kinds i
  let numbering := checkedNumbering record
  let refEnable := checked true (decide (uAt record 1 1 ≤ 1)) (uAt record 1 1 == 1) true
  let holdover := checked true (within 1 48 (uAt record 2 1)) (uAt record 2 1) 4
  let policy := checked true (decide (uAt record 3 1 ≤ 1)) (uAt record 3 1 == 1) false
  let mode := checked true (decide (uAt record 890 1 ≤ 1)) (uAt record 890 1 == 1) true
  let stages := checkedStages record mode.value
  let ev0 := checkedInput record 987
  let ev1 := checkedInput record 989
  let check := checkedCheck record kinds
  { rejected := false, fixedNumber := numbering.value, referenceEnable := refEnable.value, holdoverHours := holdover.value,
    keepNewest := policy.value, noticeMask := BitVec.ofNat 16 (uAt record 4 2), channels := Vector.ofFn fun i => (chan i).value,
    stage := some stages.value, inputs := #v[ev0.value, ev1.value], check := check.value,
    recordFault := numbering.replaced || refEnable.replaced || holdover.replaced || policy.replaced || mode.replaced ||
      ev0.replaced || ev1.replaced || check.replaced ||
      (kindAt 0).replaced || (kindAt 1).replaced || (kindAt 2).replaced || (kindAt 3).replaced ||
      (chan 0).replaced || (chan 1).replaced || (chan 2).replaced || (chan 3).replaced,
    tableFault := stages.replaced }

/-- The settings that a start takes from the stored record: none of a rejected one (R194). -/
def setupOfRecord (record : List Byte) : Setup :=
  if recordMatches record then acceptedSetup record else Setup.halted

end Sys2Proof.Machine
end

