-- ==== Sys2Proof/Machine/Ops.lean ====
section
/-! DEFINITION. The operations that several commands share and that reach over several blocks: the row close, the own boundary, the
step, leaving MEMBER, and the start. -/

namespace Sys2Proof.Machine

/-- The station is at work. -/
def State.running (s : State) : Bool := decide (s.phase = .running)

/-- At work and not HALTED: the hut-side units act (R43, R58, R78). -/
def State.active (s : State) : Bool := s.running && decide (s.member.state ≠ .halted)

/-- Leader of the epoch in progress (R16). -/
def State.leading (s : State) : Bool := s.member.leads s.mark.currentLeader

/-- Mark events discipline the timebase (R5). -/
def State.disciplined (s : State) : Bool := s.member.follows && !s.leading

/-- The station reaches a position of its epoch. -/
def State.reach (s : State) (tick : Nat) : State := s.setTb (s.tb.reach tick)

/-- A cell of the open row, changed (R85). -/
def State.mapCell (s : State) (k : Station) (g : Cell → Cell) : State := s.setTable (s.table.mapCell k g)

/-- A peer's cell takes the outcome of its slot (R86). -/
def Cell.damagedBy (kind : DamageKind) : Cell := { state := .damaged, damage := some kind, report := none, own := false }

/-- The compensation that a channel's bias output drives at the sensor, in pT: b × U on a vector channel at work, else zero (R102, R106,
R200). -/
def State.biasOutput (s : State) (i : Channel) : Int :=
  if s.running && s.setup.channels[i].kind.isVector then s.front[i].bias * s.setup.channels[i].biasUnit else 0

/-! ### Leaving MEMBER (R32, R42, R50, R52, R62, R75, R76) -/

/-- The own transmission ends without an outcome: its cell becomes ABORTED (R52). -/
def State.abortTransmission (s : State) : State :=
  match s.line.tx with
  | some t => (s.mapCell t.slot fun c => { c with state := .aborted }).setLine { s.line with tx := none }
  | none => s

/-- The station releases the summary window at a position (R62). A rise that its own drive made is undone when its start cell has not been
read yet; other stations may still assert that cell (log 19). -/
def DataLine.releaseWindow (l : DataLine) (tick : Nat) : DataLine :=
  { l with summaryDriving := false, summaryDriveEnd := min l.summaryDriveEnd tick
           summaryRise :=
             if l.summaryDriving && decide (l.summaryRise = some Config.summaryWindow) &&
                 decide (tick < Config.summaryWindow + cellCentre 0) then none
             else l.summaryRise }

/-- What leaving MEMBER does outside the membership unit. -/
def State.leaveMember (s : State) : State :=
  let s := s.abortTransmission
  (s.setMark { s.mark with led := false, drive := .released }).setLine
    { s.line.releaseWindow s.tb.tick with collisions := 0 }

/-- A number is adopted (R68, R69, R72, R73, R76, R77): a station that leaves a state stops what that state did, then joins under the
number. -/
def State.adoptNumber (s : State) (number : Station) : State :=
  let s := match s.member.state with
    | .member => s.leaveMember
    | .unnumbered | .joining | .conflict | .halted => s
  s.setMember (s.member.adopt number)

/-! ### The row close (R87 to R89) -/

/-- Everything the blocks do at the close of the row `r`, reading the station `s` as it stood when the close was taken (R89). -/
def State.closeBlocks (s : State) (cut : Bool) (collected : TimeState) (r : Row) : State :=
  let own := s.member.number
  let member := s.member.close r
  let time := s.tb.close cut collected (r.leadersReport own) r.epoch (member.leads r.elect)
  let s' := ((((s.setMark (s.mark.close r)).setMember member).setTb time.tb).setCheck
    (s.check.close s.setup.check (r.evaluate own s.setup.check.reference))).setEvents { s.events with edgeSeen := false }
  let s' := s'.raiseIf time.relabeled .relabeled
  if s.member.state = .member then s'.archiveClose r own s.events.edgeSeen else s'

/-- The open row closes, at 900 ms or by a cut, and the blocks act on it; in HALTED only the row changes (R87 to R89). `collected` is the
time state the row was collected in (R17). -/
def State.closeRow (s : State) (cut : Bool) (collected : TimeState) : State :=
  match s.table.openRow with
  | none => s
  | some r =>
    let r := { r with isOpen := false, cut := cut }
    let s := s.setTable (s.table.mapOpen fun _ => r)
    if s.member.state = .halted then s else s.closeBlocks cut collected r

/-! ### The own boundary (R1, R28, R30, R70, R84, R116, R126, R129, R139) -/

/-- How the other blocks see a boundary. -/
structure BoundaryView where
  kind : BoundaryKind
  /-- the boundary flushes (R129) -/
  flush : Bool
  /-- the MARK pair reads asserted, the own drive apart (R30, R31) -/
  asserted : Bool
  /-- the mark that caused a step, with its φ (R29) -/
  cause : Option (MarkKind × Int)
  /-- where the new boundary lies against the old one, in ticks -/
  shift : Int
deriving DecidableEq, Repr

/-- The mark unit and its pulse at a boundary; a HALTED station's keeps its values (R43, R44, R45). -/
def State.markBoundary (s : State) (v : BoundaryView) : State :=
  if s.member.state = .halted then s
  else
    let m := s.mark.rebase v.shift
    let m := m.boundary v.kind (s.member.leads s.mark.nextLeader) v.asserted (v.cause.any fun c => decide (c.1 = .fallback))
    (s.setMark m).raiseIf m.contention .contention

/-- Every ATTEND input has its filtered level taken as its sampled level (R116). -/
def EventInputs.sample (e : EventInputs) (setup : Setup) : EventInputs :=
  { e with sampled := mapAllIdx e.sampled fun i x => if setup.inputs[i].function = .attend then e.filtered[i] else x }

/-- The data line unit, the membership unit and the event inputs at a boundary (R61, R70, R116). DESIGN CHOICE: the unit's own summary OR
read keeps the set last stored until the next store (log 42). -/
def State.lineBoundary (s : State) (v : BoundaryView) (countsQuiet : Bool) : State :=
  ((s.setLine { s.line with summaryDriveEnd := 0, summaryRise := none, summaryStored := false }).setMember
    (s.member.boundary (countsQuiet && chained s.setup s.member) v.shift)).setEvents (s.events.sample s.setup)

/-- The row opens (R84). -/
def State.openRow (s : State) (v : BoundaryView) : State :=
  s.setTable (s.table.openNew (Row.opened s.tb.epochNumber s.mark.currentLeader
    (match v.kind with
      | .counted => s.table.early
      | .referenceStep | .markStep => v.cause)))

/-- The front-ends and the decimator at a boundary (R112, R126, R129, R130). -/
def State.channelBoundary (s : State) (v : BoundaryView) : State :=
  ((s.setFront (if v.flush then mapAll s.front FrontEnd.flush else s.front)).setDec
    (mapAllIdx s.dec fun i d => d.boundary s.setup.channels[i].kind s.setup.stage v.flush s.tb.epochNumber)).setRestartPending false

/-- The hut is attended: the summary OR of the last closed row holds ATTENDED (R138). -/
def State.hutAttended (s : State) : Bool :=
  match s.table.closedRows with
  | r :: _ => r.attended
  | [] => false

/-- The correction unit at a boundary, after the decimator (R139). -/
def State.correctionBoundary (s : State) : State :=
  s.setCorr (mapAllIdx s.corr fun i x =>
    x.boundary s.setup.channels[i] s.dec[i].value
      (sourceTemperature s.setup.channels[i] s.dec s.member.roster s.tb.epochNumber) s.hutAttended)

/-- Every block but the timebase at an own boundary. `countsQuiet` is false at the first own boundary after a start (R70). -/
def State.blocksAtBoundary (s : State) (v : BoundaryView) (countsQuiet : Bool) : State :=
  ((((s.markBoundary v).lineBoundary v countsQuiet).openRow v).channelBoundary v).correctionBoundary

/-- A counted own boundary (R1). -/
def State.countedBoundary (s : State) (oscTemp : Int) : State :=
  let shift := s.tb.epochLength
  (s.setTb (s.tb.boundary s.retention.drift .counted 0 oscTemp)).blocksAtBoundary
    { kind := .counted, flush := s.restartPending, asserted := s.pins.markAsserted, cause := none, shift := shift } true

/-! ### The step (R7) -/

/-- An own transmission, a reception and a summary window in progress end (R52, R57, R62). No reception stands then before the new epoch's
first slot start (log 35). DESIGN CHOICE: the unit's own summary OR read keeps the set last stored (log 42). -/
def State.endLineActivity (s : State) : State :=
  let s := s.abortTransmission
  let s := match s.line.rx with
    | some x => if x.state = RxState.receiving then s.mapCell x.slot fun _ => Cell.damagedBy .unfinished else s
    | none => s
  s.setLine { s.line with rx := none, summaryDriving := false, summaryRise := none }

/-- The MARK pair as the other stations leave it once the own drive is released (R30). `others` matters only while the station drives. -/
def State.assertedByOthers (s : State) (others : Bool) : Bool :=
  if s.mark.drive = .released then s.pins.markAsserted else others

/-- The own drive of the MARK pair ends at a step (R30). -/
def State.releaseMark (s : State) (others : Bool) : State :=
  (s.setPins { s.pins with markAsserted := s.assertedByOthers others }).setMark { s.mark with drive := .released }

/-- A step (R7): the epoch in progress ends at the edge's attributed instant, `shift` ticks after its own boundary, and the new epoch
stands at `tick`. The timebase's own part of R1 comes first, then the cut close, which reads `collected` as the time state of the row,
and then the other blocks' part of the boundary (R20, R88; log 8). The MARK pair is tested as it stands when the step is taken, and not as
it stood at the attributed instant (R31; log 30). -/
def State.stepTo (s : State) (kind : BoundaryKind) (cause : Option (MarkKind × Int)) (collected : TimeState) (shift : Int)
    (tick : Nat) (oscTemp : Int) (others : Bool) : State :=
  let s := (s.endLineActivity.releaseMark others).raise .timeStep
  let s := s.setTb (s.tb.boundary s.retention.drift kind tick oscTemp)
  (s.closeRow true collected).blocksAtBoundary
    { kind := kind, flush := true, asserted := s.pins.markAsserted, cause := cause, shift := shift } true

/-! ### The start (R200 to R202) -/

/-- What stays when the station's working state is lost: memories, pins and the queue. Every block stands as after a start of a rejected
record, and nothing is driven (log 23). -/
def State.blank (s : State) (phase : Phase) : State :=
  { State.reset with
      phase := phase, pins := s.pins, store := { s.store with writing := none }, retention := s.retention,
      port := Port.afterStart s.retention.oldestKept, freeReads := s.freeReads, pending := s.pending }

/-- A start begins, or begins again (R200): everything in progress is interrupted. It is held while the RESET pin stays asserted, and else
reads the setup store and recovers retention memory (R194, R201, R202). -/
def State.beginStart (s : State) : State :=
  if s.pins.resetAsserted then s.blank .held else (s.blank .starting).setSetup (setupOfRecord s.store.stored)

/-- The number after a start (R64). -/
def numberAtStart (setup : Setup) (head : Bool) : Option Station :=
  if setup.rejected then none
  else
    match setup.fixedNumber with
    | some k => some k
    | none => if head then some 0 else none

/-- The membership state after a start (R71). -/
def stateAtStart (setup : Setup) (number : Option Station) : Membership :=
  if setup.rejected then .halted else if number.isSome then .joining else .unnumbered

/-- The HEAD pin is sampled in CHAIN mode only, and not under a rejected record (R64). -/
def samplesHead (setup : Setup) : Bool := !setup.rejected && decide (setup.fixedNumber = none)

/-- The head flag after a start (R64); clear under a rejected record, for which the rule's table has no row (log 20). -/
def headAtStart (setup : Setup) (head : Bool) : Bool := samplesHead setup && head

/-- The bias step a channel takes at a start (R111). -/
def biasAtStart (kind : ChannelKind) (slot : Option Int) : Int :=
  match slot with
  | some b => if kind.isVector && decide (-15 ≤ b) && decide (b ≤ 15) then b else 0
  | none => 0

/-- A pin's level read against an input's polarity (R115). -/
def assertedLevel (setup : InputSetup) (high : Bool) : Bool := high != setup.assertedLow

/-- Every block takes its values after a start, from the settings in force, the recovered memory and the samples (R201). -/
def State.startValues (s : State) (x : StartSamples) : State :=
  let setup := s.setup
  let number := numberAtStart setup x.head
  let levels : Vector Bool 2 := #v[x.ev0, x.ev1]
  { s.blank .running with
      pins := { s.pins with head := if samplesHead setup then x.head else s.pins.head, eventHigh := levels }
      setup := setup
      tb := Timebase.afterStart (driftLookup s.retention.drift x.oscTemp 0) x.oscTemp
      member := Member.afterStart (headAtStart setup x.head) number (stateAtStart setup number)
      front := Vector.ofFn fun i : Fin 4 => FrontEnd.afterStart (biasAtStart setup.channels[i].kind s.retention.biasSlots[i])
      events := EventInputs.afterStart (Vector.ofFn fun i : Fin 2 => assertedLevel setup.inputs[i] levels[i])
      corr := mapAll setup.channels CorrChannel.afterStart }

/-- The first own boundary (R26): the epoch is numbered 0 and counts no epoch since start; its length is fixed, and it acts as an own
boundary for every block and as a flush boundary (R129). DESIGN CHOICE: the oscillator temperature of START_COMPLETE is the reading of the
start and of this boundary alike (log 38). -/
def State.firstBoundary (s : State) : State :=
  (s.setTb s.tb.fixLength).blocksAtBoundary
    { kind := .counted, flush := true, asserted := s.pins.markAsserted, cause := none, shift := 0 } false

/-- The start completes (R201): SETUP_FAULT rises if it holds (R197), and the first own boundary occurs. -/
def State.completeStart (s : State) (x : StartSamples) : State :=
  let s := s.startValues x
  let s := s.raiseIf s.setupFaultHolds .setupFault
  s.firstBoundary.latchFrom s

end Sys2Proof.Machine
end

