-- ==== Sys2Proof/Machine/Timebase.lean ====
section
/-! DEFINITION. The commands of the timebase unit (chapter 1). -/

namespace Sys2Proof.Machine

/-- Every command of this block answers a next state: `g` is its effect at work; before a start completes it has none (log 4). -/
def atWork (s : State) (g : State → State) : Host.Outcome State Fault Refusal := .next (if s.running then g s else s)

/-- As `atWork`, for what a HALTED station does not do either (R43, R58, R78). -/
def atHut (s : State) (g : State → State) : Host.Outcome State Fault Refusal := .next (if s.active then g s else s)

/-- OWN_BOUNDARY (R1). -/
def execOwnBoundary (oscTemp : Int) (s : State) : Host.Outcome State Fault Refusal :=
  atWork s fun s => (s.countedBoundary oscTemp).latchFrom s

/-- A timebase and a drift table taken from an edge. DESIGN CHOICE: the bin's pair is written at that instant (R21, R24; log 40). -/
def State.takeEdge (s : State) (o : EdgeOutcome) : State := (s.setTb o.tb).setRetention { s.retention with drift := o.drift }

/-- The pending label applied by a window's edge in LOCKED: to the open row too when it is the epoch in progress that takes it (R3,
R19). -/
def State.labelEdge (s : State) (phase : Int) : State :=
  let l := s.tb.applyLabel phase
  let toRow := s.tb.pendingLabel.isSome && decide (0 ≤ phase)
  let s' := (s.setTb l.tb).raiseIf l.relabeled .relabeled
  if toRow then s'.setTable (s'.table.mapOpen fun r => { r with epoch := l.tb.epochNumber }) else s'

/-- A reference edge that is not ignored, of phase φ (R4, R10 to R15, R19). -/
def State.referenceEdge (s : State) (tick : Nat) (phase : Int) (inside : Bool) (oscTemp : Int) (others : Bool) : State :=
  let tb := if inside then s.tb.takeWindow tick else s.tb
  let o := referenceEdgeOutcome tb s.retention.drift inside phase
  let s' := s.takeEdge o
  if o.step then s'.stepTo .referenceStep none s.tb.timeState tick 0 oscTemp others
  else if s.tb.timeState = .locked ∧ inside then s'.labelEdge phase
  else s'

/-- REFERENCE_EDGE (R4): without reference enable it is ignored, and so is a later edge inside one window. -/
def execReferenceEdge (tick : Nat) (oscTemp : Int) (others : Bool) (s : State) : Host.Outcome State Fault Refusal :=
  atWork s fun s =>
    let s' := s.reach tick
    let phase := s.tb.fold tick
    let inside := inReferenceWindow phase
    if !s.setup.referenceEnable || (inside && s.tb.windowTaken tick) then s'
    else (s'.referenceEdge tick phase inside oscTemp others).latchFrom s

/-- REFERENCE_WINDOW_END (R8), unless a step has carried the epoch past the position (R7). -/
def execReferenceWindowEnd (s : State) : Host.Outcome State Fault Refusal :=
  atWork s fun s => if s.tb.tick ≤ 1000 then s.setTb ((s.tb.reach 1000).windowEnd s.disciplined) else s

end Sys2Proof.Machine
end

