-- ==== Sys2Proof/Machine/Channels.lean ====
section
/-! DEFINITION. The commands of the channel front-ends and of the event inputs (chapter 6); a conversion reaches the decimator (chapter
7) in the same step. -/

namespace Sys2Proof.Machine

/-- A rebias writes the new step to the channel's slot in retention memory (R108, R111). DESIGN CHOICE: the write is done at that instant
(log 40). -/
def Retention.keepBias (m : Retention) (i : Channel) (bias : Int) : Retention :=
  { m with biasSlots := setAt m.biasSlots i (some bias) }

/-- A conversion made: the front-end moves, the record joins stage 1, and REBIAS or HELD is raised (R104, R108, R109, R121). -/
def State.converted (s : State) (i : Channel) (o : ConversionOutcome) : State :=
  let s' := s.setFront (setAt s.front i o.front)
  let s' := match s.setup.stage with
    | some g => s'.setDec (setAt s.dec i (s.dec[i].push g o.record))
    | none => s'
  let s' := if o.rebiased then s'.setRetention (s.retention.keepBias i o.front.bias) else s'
  (s'.raiseIf o.rebiased .rebias).raiseIf o.held .held

/-- CONVERSION (R103): a channel that is not OFF converts. -/
def execConversion (channel : Channel) (k : Fin 64) (raw : BitVec 24) (s : State) : Host.Outcome State Fault Refusal :=
  atWork s fun s =>
    let s' := s.reach (k.val * Config.conversionStep)
    match s.front[channel].convert s.setup.channels[channel] raw.toInt with
    | some o => (s'.converted channel o).latchFrom s
    | none => s'

/-- The filtered level of an input changes; a MARKER input that becomes asserted sets the edge-seen flag (R115, R117). -/
def EventInputs.level (e : EventInputs) (i : Fin 2) (setup : InputSetup) (high : Bool) : EventInputs :=
  let level := assertedLevel setup high
  { e with filtered := setAt e.filtered i level
           edgeSeen := e.edgeSeen || (decide (setup.function = .marker) && level && !e.filtered[i]) }

/-- FILTERED_LEVEL_CHANGE (R115): a pin has held a level for 5 ms; the filter of a HALTED station does not run. -/
def execFilteredLevelChange (input : Fin 2) (high : Bool) (s : State) : Host.Outcome State Fault Refusal :=
  let s' := s.setPins { s.pins with eventHigh := setAt s.pins.eventHigh input high }
  .next (if s.active then s'.setEvents (s.events.level input s.setup.inputs[input] high) else s')

end Sys2Proof.Machine
end

