-- ==== Sys2Proof/Machine/DataLine.lean ====
section
/-! DEFINITION. The commands of the data line unit (chapter 3). -/

namespace Sys2Proof.Machine

/-- The station sends in its own slot: MEMBER with a number (R47). -/
def State.sendsAs (s : State) : Option Station := if s.member.state = .member then s.member.number else none

/-- The reception of a slot that begins (R53): HUNTING, with no frame being received. In the slot that the station sends in there is none
to receive, and the receive state is DONE (log 35). -/
def Reception.opened (slot : Station) (receives : Bool) : Reception :=
  { slot := slot, state := if receives then .hunting else .done, rise := 0, bytes := [], cells := [], expected := none }

/-- OWN_SLOT_START (R47, R48, R91, R99): the report is built, placed in the own cell and sent, and the raised record is emptied. The own slot
is the slot in progress. -/
def execOwnSlotStart (s : State) : Host.Outcome State Fault Refusal :=
  atHut s fun s =>
    match s.sendsAs with
    | none => s
    | some k =>
      let report := s.buildReport k
      (((s.reach (Config.slotStart k)).mapCell k fun _ => { state := .empty, damage := none, report := some report, own := true }).setLine
        { s.line with tx := some { report := report, slot := k }, rx := some (Reception.opened k false) }).setRaised 0

/-- SLOT_START (R47, R53, R58): the slot is in progress, and reception of one that the station does not send in begins in HUNTING. -/
def execSlotStart (slot : Station) (s : State) : Host.Outcome State Fault Refusal :=
  atHut s fun s =>
    (s.reach (Config.slotStart slot)).setLine
      { s.line with rx := some (Reception.opened slot (decide (s.sendsAs ≠ some slot))) }

/-- FRAME_FIRST_RISE (R53): a rise before the 5 ms limit whose start cell reads asserted at its centre is the frame's first rise; else it
was a transient. After a HUNT_TIMEOUT none is taken, however it fell (log 34). DESIGN CHOICE: a rise that follows a transient's within its
start cell, less than 520 ticks after it, is a candidate like any other (log 41). DESIGN CHOICE: so is a rise at the very tick of the slot
start, where R53 both hunts and takes no candidate from an asserted line (log 43). -/
def execFrameFirstRise (tick : Nat) (asserted : Bool) (s : State) : Host.Outcome State Fault Refusal :=
  atHut s fun s =>
    match s.line.rx with
    | none => s
    | some x =>
      let start := Config.slotStart x.slot
      if x.state = RxState.hunting ∧ start ≤ tick ∧ tick < start + Config.huntLength then
        let s' := s.reach (tick + cellCentre 0)
        if asserted then s'.setLine { s.line with rx := some { x with state := .receiving, rise := tick, cells := [true] } } else s'
      else s

/-- HUNT_TIMEOUT (R53): 5 ms without a first rise; the cell stays EMPTY. DESIGN CHOICE: it ends the hunt also while the start cell of a
candidate that rose before the limit is still to be read (log 34). -/
def execHuntTimeout (s : State) : Host.Outcome State Fault Refusal :=
  atHut s fun s =>
    match s.line.rx with
    | none => s
    | some x =>
      if x.state = RxState.hunting then
        (s.reach (Config.slotStart x.slot + Config.huntLength)).setLine { s.line with rx := some { x with state := .done } }
      else s

/-- The cells of the frame read so far, on the grid of its first rise. -/
def Reception.cellsRead (x : Reception) : Nat := 10 * x.bytes.length + x.cells.length

/-- What a cell read makes of a reception (R54, R55): more cells are to come, a fault ends it, or the last expected cell has been read. -/
inductive CellOutcome where
  | more (x : Reception)
  | fault (x : Reception) (kind : DamageKind)
  | whole (x : Reception)
deriving DecidableEq, Repr

/-- A byte read to its stop cell (R54): the first must be the lead byte, the second fixes the expected cell count, and the last expected
one ends the frame. Lead and length byte are judged with their stop cell read (log 19). -/
def Reception.readByte (x : Reception) (b : Byte) : CellOutcome :=
  let y := { x with bytes := x.bytes ++ [b], cells := [] }
  match x.bytes with
  | [] => if b = 0xD5#8 then .more y else .fault y .framing
  | [_] => if b.toNat < 15 ∨ 48 < b.toNat then .fault y .length else .more { y with expected := some ((b.toNat + 4) * 10) }
  | _ => if x.expected = some y.cellsRead then .whole y else .more y

/-- One cell read at its centre (R46, R54): a start cell must read asserted, eight data cells follow, and a stop cell must read
released. -/
def Reception.readCell (x : Reception) (level : Bool) : CellOutcome :=
  let y := { x with cells := x.cells ++ [level] }
  match x.cells with
  | [] => if level then .more y else .fault y .framing
  | _ :: data => if data.length < 8 then .more y else if level then .fault y .framing else x.readByte (byteOfCells data)

/-- Cells read one after another, until one ends the reception; line activity after that is ignored (R55). -/
def Reception.readCells (x : Reception) : List Bool → CellOutcome
  | [] => .more x
  | level :: rest =>
    match x.readCell level with
    | .more y => y.readCells rest
    | .fault y kind => .fault y kind
    | .whole y => .whole y

/-- Reception of a slot ends with its cell set (R54 to R56). -/
def State.endReception (s : State) (x : Reception) (c : Cell) : State :=
  (s.mapCell x.slot fun _ => c).setLine { s.line with rx := some { x with state := .done } }

/-- The cell that a judged frame gives (R55). -/
def Judgement.cell : Judgement → Cell
  | .received r => { state := .received, damage := none, report := some r, own := false }
  | .damaged k => Cell.damagedBy k

/-- The judgement of a frame read whole (R55), its lead and length bytes judged as they were read. -/
def Reception.judged (x : Reception) : Judgement :=
  match x.bytes with
  | _ :: len :: tail => judgeWhole x.slot len tail
  | _ => .damaged .framing

/-- The station stands at the centre of the last cell read of a frame. -/
def State.atCell (s : State) (x : Reception) : State := s.reach (x.rise + cellCentre (x.cellsRead - 1))

/-- Cells of the frame being received are read (R54, R55): the reception goes on with the bytes so far, or ends with its cell set by the
fault found or by the judgement of the whole frame. -/
def State.readFrame (s : State) (levels : List Bool) : State :=
  match s.line.rx with
  | none => s
  | some x =>
    if x.state = RxState.receiving then
      match x.readCells levels with
      | .more y => (s.atCell y).setLine { s.line with rx := some y }
      | .fault y kind => (s.atCell y).endReception y (Cell.damagedBy kind)
      | .whole y => (s.atCell y).endReception y y.judged.cell
    else s

/-- FRAMING_FAULT (R54): the cells are read, and the one that shows the fault ends the reception (log 19). -/
def execFramingFault (cells : List Bool) (s : State) : Host.Outcome State Fault Refusal := atHut s fun s => s.readFrame cells

/-- FRAME_RECEIVED (R55): the cells are read, and the last expected one has the frame judged. -/
def execFrameReceived (cells : List Bool) (s : State) : Host.Outcome State Fault Refusal := atHut s fun s => s.readFrame cells

/-- SLOT_END (R47, R56): the slot in progress ends, the own slot like any other, and a frame still in reception is UNFINISHED. -/
def execSlotEnd (s : State) : Host.Outcome State Fault Refusal :=
  atHut s fun s =>
    match s.line.rx with
    | none => s
    | some x =>
      let s' := s.reach (Config.slotStart x.slot + Config.slotLength)
      match x.state with
      | .receiving => s'.endReception x (Cell.damagedBy .unfinished)
      | .hunting => s'.setLine { s.line with rx := some { x with state := .done } }
      | .done => s'

/-- The tick at the centre of a cell of the own frame (R46, R48). -/
def txCellTick (slot : Station) (cell : Nat) : Nat := Config.slotStart slot + Config.frameDelay + cellCentre cell

/-- The index of the cell in progress of the own frame at the present tick count: 0 before its first cell (section 3.3). -/
def State.txCell (s : State) (t : Transmission) : Nat :=
  cellAt (s.tb.tick - (Config.slotStart t.slot + Config.frameDelay))

/-- The level of a cell sequence that began at `start`, as its sender drives it at the present tick count (R46). -/
def State.drivenAt (s : State) (start : Int) (cells : List Bool) : Bool :=
  decide (start ≤ s.tb.tick) && cells.getD (cellAt ((s.tb.tick : Int) - start).toNat) false

/-- The station drives the DATA pair asserted: a cell of its frame or of the summary window (R46, R48, R59). -/
def State.dataDrive (s : State) : Bool :=
  s.line.tx.any (fun t => s.drivenAt (Config.slotStart t.slot + Config.frameDelay : Nat) (frameCells (encodeFrame t.report))) ||
  (s.line.summaryDriving && s.drivenAt (Config.summaryWindow : Nat) (summaryCells s.line.summaryDriven))

/-- TRANSMISSION_COMPLETE (R49 to R51). -/
def execTransmissionComplete (s : State) : Host.Outcome State Fault Refusal :=
  atHut s fun s =>
    match s.line.tx with
    | none => s
    | some t =>
      ((s.reach (txCellTick t.slot (10 * (encodeFrame t.report).length - 1))).mapCell t.slot fun c =>
        { c with state := .received }).setLine { s.line with tx := none, collisions := 0 }

/-- COLLIDED (R49, R50, R51, R75): the own cell is COLLIDED, the count rises, and a MEMBER whose count reaches 3 enters CONFLICT. -/
def execCollided (cell : Nat) (s : State) : Host.Outcome State Fault Refusal :=
  atHut s fun s =>
    match s.line.tx with
    | none => s
    | some t =>
      if cell < 10 * (encodeFrame t.report).length then
        let count := countUp 255 s.line.collisions
        let s' := ((s.reach (txCellTick t.slot cell)).mapCell t.slot fun c => { c with state := .collided }).setLine
          { s.line with tx := none, collisions := count }
        if 3 ≤ count ∧ s.member.state = .member then
          s'.leaveMember.setMember { s.member with state := .conflict, conflictQuiet := 0 }
        else s'
      else s

/-- A MEMBER or JOINING station drives the summary window (R58, R59). -/
def State.drivesWindow (s : State) : Bool := decide (s.member.state = .member) || decide (s.member.state = .joining)

/-- SUMMARY_WINDOW (R59 to R61): a MEMBER or JOINING station fixes its bits and drives; any other drives none. Where the pair was released,
its own drive is the rise that the station is hunting for, and holds the start cell asserted (log 19). -/
def execSummaryWindow (s : State) (others : Bool := false) : Host.Outcome State Fault Refusal :=
  atHut s fun s =>
    let hunting := decide (s.line.summaryStored = false) && decide (s.line.summaryRise = none)
    (s.reach Config.summaryWindow).setLine
      { s.line with
        summaryDriven := if s.drivesWindow then s.summaryBits else 0
        summaryDriving := s.drivesWindow
        summaryDriveEnd := if s.drivesWindow then Config.summaryWindowEnd else 0
        summaryRise := if s.drivesWindow && !others && hunting then some Config.summaryWindow else s.line.summaryRise }

/-- The station's own drive of the summary window at a position, which reaches its own reading (R61): a cell sent as 1, from 830 ms until
the drive ends. -/
def DataLine.ownWindow (l : DataLine) (tick : Nat) : Bool :=
  decide (Config.summaryWindow ≤ tick) && decide (tick < l.summaryDriveEnd) &&
  (summaryCells l.summaryDriven).getD (cellAt (tick - Config.summaryWindow)) false

/-- SUMMARY_WINDOW_RISE (R61): the first rise from 828 ms up to 832 ms whose start cell reads asserted fixes the grid; an earlier rise,
judged after the own drive began, is the first. After a SUMMARY_HUNT_END none is taken, however it fell (log 34). DESIGN CHOICE: a rise
that follows a transient's within its start cell, less than 520 ticks after it, is a candidate like any other (log 41). -/
def execSummaryWindowRise (tick : Nat) (asserted : Bool) (s : State) : Host.Outcome State Fault Refusal :=
  atHut s fun s =>
    if ¬s.line.summaryStored ∧ s.line.summaryRise.all (fun r => decide (tick < r)) ∧ Config.summaryHuntStart ≤ tick ∧
        tick < Config.summaryHuntEnd then
      let s' := s.reach (tick + cellCentre 0)
      if asserted || s.line.ownWindow (tick + cellCentre 0) then s'.setLine { s.line with summaryRise := some tick } else s'
    else s

/-- The summary OR read is stored into the open row (R61). -/
def State.storeSummary (s : State) (bits : SummarySet) : State :=
  (s.setTable (s.table.mapOpen fun r => { r with summaryOr := bits })).setLine
    { s.line with summaryRise := none, summaryStored := true, summaryOr := bits }

/-- The own drive at the centres of cells 1 to 4 of a window whose rise is given, as bits. -/
def DataLine.ownBits (l : DataLine) (rise : Nat) : SummarySet :=
  BitVec.ofNat 4 (bitsNat ((List.range 4).map fun n => l.ownWindow (rise + cellCentre (n + 1))))

/-- The summary OR that cells 1 to 5 give on the grid of a window's rise (R61): what the other stations drive and the own drive, and DOUBT
added when the stop cell reads asserted. -/
def DataLine.windowRead (l : DataLine) (rise : Nat) (bits : SummarySet) (stopAsserted : Bool) : SummarySet :=
  bits ||| l.ownBits rise ||| (if stopAsserted || l.ownWindow (rise + cellCentre 5) then 4#4 else 0#4)

/-- SUMMARY_OR_READ (R61): at the centre of the stop cell the summary OR read is stored. -/
def execSummaryOrRead (bits : SummarySet) (stopAsserted : Bool) (s : State) : Host.Outcome State Fault Refusal :=
  atHut s fun s =>
    match s.line.summaryRise with
    | none => s
    | some rise => (s.reach (rise + cellCentre 5)).storeSummary (s.line.windowRead rise bits stopAsserted)

/-- SUMMARY_HUNT_END (R61): the span has passed without a window's rise. A station that drove the window has one from 830 ms, unless the pair
was asserted throughout. DESIGN CHOICE: it ends the hunt, with 0 stored, also while the start cell of a rise before 832 ms is still to be
read (log 34). -/
def execSummaryHuntEnd (s : State) : Host.Outcome State Fault Refusal :=
  atHut s fun s =>
    let s' := s.reach Config.summaryHuntEnd
    if ¬s.line.summaryStored ∧ s.line.summaryRise = none then s'.storeSummary 0 else s'

/-- SUMMARY_WINDOW_END (R59): the station releases the DATA pair; the bits driven stay as fixed. -/
def execSummaryWindowEnd (s : State) : Host.Outcome State Fault Refusal :=
  atHut s fun s => (s.reach Config.summaryWindowEnd).setLine { s.line with summaryDriving := false }

end Sys2Proof.Machine
end

