-- ==== Sys2Proof/Machine/Mark.lean ====
section
/-! DEFINITION. The commands of the mark unit (chapter 2). -/

namespace Sys2Proof.Machine

/-- MARK_RISE (R27, R33): the pair goes from released to asserted, which begins a pulse for a unit that observes. -/
def execMarkRise (tick : Nat) (s : State) : Host.Outcome State Fault Refusal :=
  .next (if s.pins.markAsserted then s
    else
      let s' := s.setPins { s.pins with markAsserted := true }
      if s'.active then
        (s'.reach tick).setMark { s'.mark.seeRise s'.tb tick with pulse := some { rise := tick, classified := false } }
      else s')

/-- A classified pulse that was not stepped to: a fallback pulse near the boundary sets the fallback flag (R34), and a pulse taken is
recorded in the open row, or in the early mark record when it marks the boundary to come (R35, R84). -/
def State.recordPulse (s : State) (kind : MarkKind) (rise attributed phase : Int) (taken : Bool) : State :=
  let near := decide (kind = .fallback) && decide (-20000 ≤ rise) && decide (rise ≤ 100000)
  let s' := s.setMark { s.mark with fallback := s.mark.fallback || near }
  if taken then
    let s' := s'.setMark (s'.mark.take attributed)
    if ofNextWatch attributed then s'.setTable { s'.table with early := some (kind, phase) }
    else s'.setTable (s'.table.recordMark kind phase)
  else s'

/-- A pulse classified at `tick` with an attributed boundary (R29): it is handed to the timebase as a mark taken or a stray mark; one that
is stepped to belongs to the watch that the step opens (R29; log 9). -/
def State.classify (s : State) (kind : MarkKind) (rise attributed : Int) (tick : Nat) (oscTemp : Int) (others : Bool) : State :=
  let phase := s.tb.fold attributed
  let taken := s.mark.takes s.tb attributed
  let o := handMark s.tb s.retention.drift s.disciplined taken phase
  let s' := s.takeEdge o
  if o.step then
    s'.stepTo .markStep (some (kind, phase)) s.tb.timeState attributed ((tick : Int) - attributed).toNat oscTemp others
  else s'.recordPulse kind rise attributed phase taken

/-- The pulse in progress that has not been classified, when the unit observes (R27, R43). -/
def State.unclassified (s : State) : Option Int :=
  match s.mark.pulse with
  | some p => if s.active && !p.classified then some p.rise else none
  | none => none

/-- LEADER_PULSE (R27): the pair releases at `tick`, at or before 2 ms after the rise; the attributed boundary is the rise. -/
def execLeaderPulse (tick : Nat) (oscTemp : Int) (s : State) : Host.Outcome State Fault Refusal :=
  let s' := (s.setPins { s.pins with markAsserted := false }).setMark { s.mark with pulse := none }
  .next (match s.unclassified with
    | none => s'
    | some rise =>
      if (tick : Int) - rise ≤ Config.pulseThreshold then
        ((s'.reach tick).classify .leader rise rise tick oscTemp false).latchFrom s
      else s')

/-- FALLBACK_PULSE (R27): 2 ms after the rise the pair is still asserted; the attributed boundary is the rise less 5 ms. -/
def execFallbackPulse (oscTemp : Int) (others : Bool) (s : State) : Host.Outcome State Fault Refusal :=
  .next (match s.unclassified with
    | none => s
    | some rise =>
      let tick := (rise + Config.pulseThreshold).toNat
      let s' := (s.reach tick).setMark { s.mark with pulse := some { rise := rise, classified := true } }
      (s'.classify .fallback rise (rise - Config.fallbackDelay) tick oscTemp others).latchFrom s)

/-- MARK_PAIR_RELEASE (R27): the pulse in progress ends. -/
def execMarkPairRelease (s : State) : Host.Outcome State Fault Refusal :=
  .next ((s.setPins { s.pins with markAsserted := false }).setMark { s.mark with pulse := none })

/-- MARK_ABSENT (R29): the watch closes at +12 ms; without a mark taken, a mark absent is handed to the timebase. -/
def execMarkAbsent (s : State) : Host.Outcome State Fault Refusal :=
  atHut s fun s =>
    let s' := s.reach Config.watchClose
    let s' := s'.setMark { s'.mark with watch := { s'.mark.watch with isOpen := false } }
    if s.mark.watch.isOpen && !s.mark.watch.taken then s'.setTb (s'.tb.markAbsent s.disciplined) else s'

/-- LEADER_MARK_END (R30): the leader mark is released, wherever the epoch stands by then (log 31). -/
def execLeaderMarkEnd (s : State) : Host.Outcome State Fault Refusal :=
  atHut s fun s =>
    let s' := s.reach Config.leaderMarkEnd
    if s.mark.drive = .leader then s'.setMark { s'.mark with drive := .released } else s'

/-- FALLBACK_MARK (R33): the +5 ms position, unless a step has carried the epoch past it. -/
def execFallbackMark (s : State) : Host.Outcome State Fault Refusal :=
  atHut s fun s =>
    let s' := s.reach Config.fallbackMark
    if s.tb.tick ≤ Config.fallbackMark ∧ s.member.state = .member ∧ ¬s.leading ∧ ¬s.mark.watch.riseSeen ∧ ¬s.pins.markAsserted then
      s'.setMark { s'.mark with drive := .fallback, fallback := true }
    else s'

/-- FALLBACK_MARK_END (R33). -/
def execFallbackMarkEnd (s : State) : Host.Outcome State Fault Refusal :=
  atHut s fun s =>
    let s' := s.reach Config.fallbackMarkEnd
    if s.mark.drive = .fallback then s'.setMark { s'.mark with drive := .released } else s'

end Sys2Proof.Machine
end

