-- ==== Sys2Proof/Machine/Membership.lean ====
section
/-! DEFINITION. The commands of the membership unit (chapter 4) and of the epoch table (chapter 5). -/

namespace Sys2Proof.Machine

/-- The station drives CHOUT asserted: a cell of its chain word (R65). -/
def State.choutDrive (s : State) : Bool :=
  s.member.chainTx.any fun w => s.drivenAt w.start (chainCells (BitVec.ofNat 4 (stationNumber w.number)))

/-- ROW_CLOSE (R87): the open row closes at 900 ms and every block acts on it (R89). -/
def execRowClose (s : State) : Host.Outcome State Fault Refusal :=
  atWork s fun s => ((s.reach Config.rowClose).closeRow false s.tb.timeState).latchFrom s

/-- CHAIN_WORD_SEND (R65): a station with a number sends it. -/
def execChainWordSend (s : State) : Host.Outcome State Fault Refusal :=
  atHut s fun s =>
    let s' := s.reach Config.chainWord
    match s.member.number with
    | some k => s'.setMember { s.member with chainTx := some { number := k, start := 9500000 } }
    | none => s'

/-- CHAIN_WORD_END (R65): ten cells after its start the word has been sent; a step has not moved it. -/
def execChainWordEnd (s : State) : Host.Outcome State Fault Refusal :=
  atHut s fun s =>
    match s.member.chainTx with
    | some w => (s.reach (w.start + cellStart 10).toNat).setMember { s.member with chainTx := none }
    | none => s

/-- A word completes with its number, complement and stop cells (R67 to R70): it is counted, a valid one is taken against the number held, and
a faulty one raises CHAIN_FAULT. -/
def State.wordComplete (s : State) (number complement : BitVec 4) (stopAsserted : Bool) : State :=
  let m := { s.member with quiet := 0, wordSeen := true, chainRx := .hunting }
  if chainWordValid number complement stopAsserted then
    let o := m.hear (chainNumber number)
    let s' := s.setMember o.member
    match o.adopted with
    | some k => s'.adoptNumber k
    | none => s'
  else (s.setMember m.clearRun).raise .chainFault

/-- The cells of a word have been read on the grid of its rise (R66): with the tenth it is complete, and before that the reading goes on. A
rise up to the completion is no candidate start: CHIN, if it was asserted then, has not released and risen again. -/
def State.readWord (s : State) (rise : Int) (cells : List Bool) : State :=
  let word := cells.take 10
  let s' := s.reach (rise + cellCentre (word.length - 1)).toNat
  if word.length < 10 then s'.setMember { s.member with chainRx := .reading rise word }
  else
    (s'.setMember { s.member with chainAfter := rise + cellCentre 9 }).wordComplete (cellsNumber ((word.drop 1).take 4))
      (cellsNumber ((word.drop 5).take 4)) (word.getD 9 false)

/-- CHAIN_WORD_RECEIVED (R66, R67): a chained station reads CHIN. In HUNTING a rise after the last word's completion, and after the start
(R82), is a candidate start: where its start cell reads asserted it begins a word, and else it was a transient. In READING the cells carry
the word on. -/
def execChainWordReceived (rise : Int) (asserted : Bool) (cells : List Bool) (s : State) : Host.Outcome State Fault Refusal :=
  atHut s fun s =>
    if chained s.setup s.member then
      match s.member.chainRx with
      | .hunting =>
        if rise ≤ s.member.chainAfter then s
        else if asserted then s.readWord rise (true :: cells) else s.reach (rise + cellCentre 0).toNat
      | .reading start read => s.readWord start (read ++ cells)
    else s

end Sys2Proof.Machine
end

