-- ==== Sys2Proof/Machine/Images.lean ====
section
/-! DEFINITION. The images that the readout port returns (section 12.4), byte by byte. -/

namespace Sys2Proof.Machine

/-- A set of conditions or notices, two bytes. -/
def setBytes (c : ConditionSet) : List Byte := leBytes 2 c.toNat

/-- The status image, 54 bytes (R181). -/
def State.statusImage (s : State) : List Byte :=
  [byte (stationByte s.member.number), byte s.member.state.code, byte s.tb.timeState.code,
   byte (leadRank s.tb s.setup.holdoverHours)] ++
  uField 4 s.tb.sourceAge ++ leBytes 4 s.tb.epochNumber.toNat ++ uField 4 s.tb.epochsSinceStart ++
  [byte (stationByte s.mark.currentLeader)] ++ uField 2 s.mark.leaderless ++ uField 1 s.line.collisions ++
  [byte s.line.summaryDriven.toNat, byte (flag s.events.edgeSeen)] ++
  setBytes s.currentConditions ++ setBytes s.port.notices ++ setBytes s.setup.noticeMask ++
  uField 4 s.retention.oldestKept ++ uField 4 s.retention.newest ++ uField 4 s.retention.releasePoint ++
  uField 4 s.retention.nextSeq ++ uField 2 s.retention.keptCount ++ uField 2 s.retention.unreleasedCount ++
  uField 1 s.archive.queue.length ++ uField 4 s.port.cursor ++ [byte s.port.lastResult.code]

/-- The record of a cell in a row image, 51 bytes (R90). A cell in transmission reads EMPTY and shows no report (R86). -/
def Cell.image (c : Cell) : List Byte :=
  let body := if c.state = .empty then [] else match c.report with
    | some r => encodeReport r
    | none => []
  [byte c.state.code, byte (match c.damage with
    | some k => k.code
    | none => 0), byte body.length] ++ padTo 48 body

/-- A row image, 418 bytes (R90). -/
def Row.image (r : Row) : List Byte :=
  leBytes 4 r.epoch.toNat ++ [byte (stationByte r.leader), byte r.markKind.code] ++ sField 2 (r.markPhase.getD (-32768)) ++
  [byte r.summaryOr.toNat, byte (flag r.cut)] ++ stations.flatMap fun k => r.cells[k].image

/-- The missing-row image (R90). -/
def missingRowImage : List Byte := List.replicate 418 0

/-- The image of the closed row of an age (R90). -/
def EpochTable.rowImage (t : EpochTable) (age : Nat) : List Byte :=
  match t.closedRows[age]? with
  | some r => r.image
  | none => missingRowImage

/-- A temperature record in a roster entry, 9 bytes. -/
def TempRecord.image (t : TempRecord) : List Byte :=
  byte (descriptor t.index t.kind t.quality) :: (sField 4 (t.value.getD 0) ++ leBytes 4 t.valueEpoch.toNat)

/-- A roster entry, 49 bytes; an UNSEEN entry reads zero after its presence byte. -/
def RosterEntry.image (e : RosterEntry) : List Byte :=
  if e.presence = .unseen then List.replicate 49 0
  else
    [byte e.presence.code] ++ uField 1 e.missed ++ leBytes 4 ((e.lastEpoch.getD 0).toNat) ++ uField 1 (e.lastRank.getD 0) ++
    uField 4 (e.lastAge.getD 0) ++ [byte (match e.lastState with
      | some t => t.code
      | none => 0)] ++ uField 1 e.temps.length ++ padTo 36 (e.temps.flatMap TempRecord.image)

/-- The roster image, 392 bytes (R182). -/
def State.rosterImage (s : State) : List Byte := stations.flatMap fun k => s.member.roster[k].image

/-- A drift bin, 5 bytes. -/
def DriftBin.image (b : DriftBin) : List Byte := sField 4 b.estimate ++ uField 1 b.weight

/-- The drift table image, 85 bytes (R182). -/
def State.driftImage (s : State) : List Byte :=
  sField 4 s.tb.oscTemp ++ [byte (driftBinOf s.tb.oscTemp).val] ++ driftIndices.flatMap fun i => s.retention.drift[i].image

/-- A channel's 221 bytes of the setup record as READ SETUP sends them: bin-table rows beyond the row count read as zero (R206). -/
def channelSetupImage (bytes : List Byte) : List Byte :=
  bytes.take 29 ++ padTo 192 ((bytes.drop 29).take (12 * (bytes.getD 28 0).toNat))

/-- The setup record image, 1,004 bytes (R182, R206): the stored record with its check word as it stands, but for unused bin-table rows. -/
def State.setupImage (s : State) : List Byte :=
  let record := s.store.stored
  record.take 6 ++ (([0, 1, 2, 3] : List Channel).flatMap fun i => channelSetupImage ((record.drop (channelAt i)).take 221)) ++
  record.drop 890

/-- The items of a vector channel in its record: bias step to in-range count (R183). -/
def FrontEnd.vectorImage (f : FrontEnd) : List Byte :=
  sField 1 f.bias ++ [byte f.runSign.code] ++ uField 1 f.runCount ++ uField 1 f.settle ++ sField 8 f.heldValue ++
  [byte (flag f.saturated)] ++ uField 1 f.inRange

/-- The last conversion in a channel record: presence flag and marking set, then the value. -/
def FrontEnd.lastImage (f : FrontEnd) : List Byte :=
  match f.last with
  | some r => byte (128 + r.marks.code) :: sField 8 r.value
  | none => List.replicate 9 0

/-- The current epoch value in a channel record. -/
def DecChannel.valueImage (d : DecChannel) : List Byte :=
  match d.value with
  | some v => byte (128 + v.mark.code) :: sField 8 v.value
  | none => List.replicate 9 0

/-- The correction items of a field channel: bin to G (R183). -/
def CorrChannel.fieldImage (x : CorrChannel) (c : ChannelSetup) : List Byte :=
  let target : BinRow := match x.glide with
    | some g => { edge := 0, offset := g.targetOffset, scale := g.targetScale }
    | none => c.row x.bin
  uField 1 x.bin ++ [byte (flag x.snapped), byte x.freeze.code] ++ sField 4 x.offset ++ sField 4 x.scale ++
  sField 4 target.offset ++ sField 4 target.scale ++
  uField 1 (match x.glide with
    | some g => g.counter
    | none => 0) ++ uField 1 (c.glideLength.getD 0)

/-- The corrected value in a channel record. -/
def CorrChannel.correctedImage (x : CorrChannel) : List Byte :=
  match x.corrected with
  | some v => byte (128 + v.corr.code) :: sField 4 v.value
  | none => List.replicate 5 0

/-- The record of a channel, 59 bytes; an item that does not apply to the kind reads zero (R183). -/
def State.channelImage (s : State) (i : Channel) : List Byte :=
  let c := s.setup.channels[i]
  byte c.kind.code ::
    ((if c.kind.isVector then s.front[i].vectorImage else List.replicate 14 0) ++
     (if c.kind = .off then List.replicate 18 0 else s.front[i].lastImage ++ s.dec[i].valueImage) ++
     (if c.kind.isField then s.corr[i].fieldImage c else List.replicate 21 0) ++
     (if c.kind = .off then List.replicate 5 0 else s.corr[i].correctedImage))

/-- The field-check record, 9 bytes (R183). -/
def FieldCheck.image (k : FieldCheck) : List Byte :=
  uField 1 k.outCount ++ uField 1 k.inCount ++ [byte (flag k.drift), byte (128 * flag k.last.isSome)] ++
  match k.last with
  | some d => sField 4 d.value ++ [byte (referenceByte d.station d.channel)]
  | none => List.replicate 5 0

/-- The channel state image, 245 bytes (R183). -/
def State.channelStateImage (s : State) : List Byte :=
  s.channelImage 0 ++ s.channelImage 1 ++ s.channelImage 2 ++ s.channelImage 3 ++ s.check.image

end Sys2Proof.Machine
end

