-- ==== Sys2Proof/Machine/Port.lean ====
section
/-! DEFINITION. The commands of the readout port (chapter 10) and of the archive (chapter 9). -/

namespace Sys2Proof.Machine

/-! ### Command codes (section 12.4) -/

/-- The code of a command. -/
def PortCommand.code : PortCommand → Nat
  | .readStatus => 0x01 | .seek => 0x02 | .readEntries => 0x03 | .release => 0x04 | .readRow => 0x05 | .readRoster => 0x06
  | .readChannelState => 0x07 | .readDriftTable => 0x08 | .readSetup => 0x09 | .clearNotices => 0x10 | .setLabel => 0x11
  | .clearDriftTable => 0x12 | .pipelineRestart => 0x13 | .stationRestart => 0x14 | .programSetup => 0x15

/-- The command that a command byte names. -/
def PortCommand.ofByte (b : Byte) : Option PortCommand :=
  match b.toNat with
  | 0x01 => some .readStatus | 0x02 => some .seek | 0x03 => some .readEntries | 0x04 => some .release | 0x05 => some .readRow
  | 0x06 => some .readRoster | 0x07 => some .readChannelState | 0x08 => some .readDriftTable | 0x09 => some .readSetup
  | 0x10 => some .clearNotices | 0x11 => some .setLabel | 0x12 => some .clearDriftTable | 0x13 => some .pipelineRestart
  | 0x14 => some .stationRestart | 0x15 => some .programSetup | _ => none

/-! ### Transactions (R176 to R179) -/

/-- TRANSACTION_BEGIN (R176, R177, R192): select goes from high to low; a select already low begins nothing. -/
def execTransactionBegin (s : State) : Host.Outcome State Fault Refusal :=
  .next (if s.pins.selectLow then s
    else
      let s' := s.setPins { s.pins with selectLow := true }
      if s.running then s'.setPort { s.port with trans := .command, command := none, args := [], image := none, imageIndex := 0, leads := 0,
                                                    sending := none }
      else s')

/-- The eighth bit of the first byte has been sampled (R177): an unknown command byte is answered and ignored, a known one awaits its
arguments. -/
def Port.takeByte (p : Port) (b : Byte) : Port :=
  match PortCommand.ofByte b with
  | none => { p with trans := .ignoring, lastResult := .unknownCommand }
  | some c => { p with trans := .arguments, command := some c, args := [] }

/-- UNKNOWN_COMMAND (R177): a command byte that names no command. -/
def execUnknownCommand (code : Byte) (s : State) : Host.Outcome State Fault Refusal :=
  atWork s fun s =>
    if s.port.trans = .command ∧ PortCommand.ofByte code = none then s.setPort (s.port.takeByte code) else s

/-- A transaction that ends here is cut short: in COMMAND with a clock edge, or in ARGUMENTS (R176, R179). -/
def Port.cutsShort (p : Port) (edges : Nat) : Bool :=
  match p.trans with
  | .command => decide (0 < edges)
  | .arguments => true
  | .idle | .response | .ignoring => false

/-- TRANSACTION_END (R179): select goes high. -/
def execTransactionEnd (edges : Nat) (s : State) : Host.Outcome State Fault Refusal :=
  let s' := s.setPins { s.pins with selectLow := false }
  .next (if s.running then
      s'.setPort { s.port with
        trans := .idle, command := none, args := [], image := none, imageIndex := 0, leads := 0, sending := none,
        clearsResult := false, restartOpen := false
        lastResult := if s.port.cutsShort edges then .cutShort else s.port.lastResult }
    else s')

/-! ### Execution (R178, R187) -/

/-- Argument bytes of a command (section 10.2). -/
def PortCommand.argCount : PortCommand → Nat
  | .seek | .release | .setLabel => 4
  | .readRow => 1
  | .clearNotices => 2
  | .programSetup => Config.setupLength
  | .readStatus | .readEntries | .readRoster | .readChannelState | .readDriftTable | .readSetup
  | .clearDriftTable | .pipelineRestart | .stationRestart => 0

/-- Whether a command is a read (section 10.2). -/
def PortCommand.reads : PortCommand → Bool
  | .readStatus | .readEntries | .readRow | .readRoster | .readChannelState | .readDriftTable | .readSetup => true
  | .seek | .release | .clearNotices | .setLabel | .clearDriftTable | .pipelineRestart | .stationRestart | .programSetup => false

/-- The whole argument bytes sampled so far (R177). -/
def Port.argBytes (p : Port) : Nat := p.args.length / 8

/-- The port as the row of a command finds it (R177): its command byte is taken in COMMAND, and in ARGUMENTS it must be the command taken.
None where the transaction awaits no such command. -/
def Port.awaits (p : Port) (c : PortCommand) : Option Port :=
  match p.trans with
  | .command => some (p.takeByte (byte c.code))
  | .arguments => if p.command = some c then some p else none
  | .idle | .response | .ignoring => none

/-- The transaction as a command's execution leaves it (R178): a read sends two lead bytes and its image. -/
def Port.executing (p : Port) (c : PortCommand) : Port :=
  { p with trans := if c.reads then .response else .ignoring, command := some c, image := none, imageIndex := 0, leads := 2,
           sending := none, clearsResult := false }

/-- Argument bits are sampled (R177). The command is executed with its last one: BUSY while a port hold stands, else carried out by `body`
on its argument bytes (R178, R187); bits after it are ignored. Outside a transaction that awaits the command nothing happens (log 17). -/
def State.execute (s : State) (c : PortCommand) (bits : List Bool) (body : List Byte → State → State) :
    Host.Outcome State Fault Refusal :=
  .next (if s.running then
      match s.port.awaits c with
      | none => s
      | some p =>
        let args := p.args ++ bits
        if args.length < 8 * c.argCount then s.setPort { p with args := args }
        else
          let p := ({ p with args := args.take (8 * c.argCount) } : Port).executing c
          if p.hold = .none then body (bytesOfPortBits p.args) (s.setPort p) else s.setPort { p with lastResult := .busy }
    else s)

/-- The result of the command. -/
def State.result (s : State) (r : PortResult) : State := s.setPort { s.port with lastResult := r }

/-- An image formed at execution, and the result DONE (R182, R183). -/
def State.answer (s : State) (image : List Byte) : State :=
  s.setPort { s.port with image := some image, lastResult := .done }

/-! ### Data out (R172, R176, R178) -/

/-- No entry image is being sent: none has been formed, or the last one has gone out whole (R172). -/
def Port.betweenImages (p : Port) : Bool := decide ((p.image.getD []).length ≤ p.imageIndex)

/-- The next entry image is formed whole (R172). -/
def State.formImage (s : State) : State :=
  let e := s.nextEntryImage
  (s.setPort { s.port with image := some e.bytes, imageIndex := 0, leads := 0, sending := e.entry }).setFreeReads e.freeReads

/-- In the stream of READ ENTRIES, past the lead bytes and with no image in hand, an image's first byte is due, and the image is formed
(R172). -/
def State.due (s : State) : State :=
  if s.port.command = some .readEntries ∧ s.port.image.isSome ∧ s.port.leads = 0 ∧ s.port.betweenImages then s.formImage else s

/-- The last byte of an entry image has been clocked out: the cursor moves past the entry that it shows, and never below oldest kept
(R172, R173). -/
def Port.imageSent (p : Port) (oldestKept : Nat) : Port :=
  match p.sending with
  | some q => { p with cursor := max (q + 1) oldestKept, sending := none }
  | none => p

/-- One byte of a response is clocked out: a lead byte, or the next byte of the image; after the image nothing moves. -/
def Port.clockByte (p : Port) (oldestKept : Nat) : Port :=
  if 0 < p.leads then { p with leads := p.leads - 1 }
  else
    let p' := { p with imageIndex := p.imageIndex + 1 }
    if p.betweenImages then p else if p'.betweenImages then p'.imageSent oldestKept else p'

/-- One byte is clocked out; the falling edge that follows puts the next byte on data out, which is due from then on (R176, log 17). -/
def State.clockByte (s : State) : State := (s.setPort (s.port.clockByte s.retention.oldestKept)).due

/-- Bytes are clocked out one after another. -/
def State.clock : Nat → State → State
  | 0, s => s
  | n + 1, s => State.clock n s.clockByte

/-- The byte that data out sends next: 0x00 outside RESPONSE, for the lead bytes and after the image (R177, R178). -/
def State.outByte (s : State) : Byte :=
  let p := s.port
  if p.trans = .response ∧ p.leads = 0 then (p.image.getD []).getD p.imageIndex 0 else 0

/-- The level of data out at the rising edge of clock that follows `edges` others since the last command: bit 7 of a byte first. None while
select is high or no transaction is under way, when it is not driven (log 17). -/
def State.dataOut (s : State) (edges : Nat) : Option Bool :=
  if s.pins.selectLow && s.running && decide (s.port.trans ≠ .idle) then
    some ((portBits (State.clock (edges / 8) s).outByte).getD (edges % 8) false)
  else none

/-! ### Reads -/

/-- READ STATUS (R180, R181): the image carries the last result and sets none. -/
def execReadStatus (s : State) : Host.Outcome State Fault Refusal :=
  s.execute .readStatus [] fun _ s => s.setPort { s.port with image := some s.statusImage, clearsResult := true }

/-- STATUS_RESULT_CLOCKED (R180): the last byte of the status image has been clocked out; the last result becomes NONE, unless a setup
write completed since the image was formed. -/
def execStatusResultClocked (s : State) : Host.Outcome State Fault Refusal :=
  atWork s fun s =>
    if s.port.command = some .readStatus ∧ s.port.image.isSome then
      s.setPort { s.port with
        leads := 0, imageIndex := (s.port.image.getD []).length, clearsResult := false
        lastResult := if s.port.clearsResult then .none else s.port.lastResult }
    else s

/-- READ ROW (R90, R182): an age above 3 is BAD_ARGUMENT and sends no image. -/
def execReadRow (bits : List Bool) (s : State) : Host.Outcome State Fault Refusal :=
  s.execute .readRow bits fun args s => if leNat args ≤ 3 then s.answer (s.table.rowImage (leNat args)) else s.result .badArgument

/-- READ ROSTER (R182). -/
def execReadRoster (s : State) : Host.Outcome State Fault Refusal := s.execute .readRoster [] fun _ s => s.answer s.rosterImage

/-- READ CHANNEL STATE (R183). -/
def execReadChannelState (s : State) : Host.Outcome State Fault Refusal :=
  s.execute .readChannelState [] fun _ s => s.answer s.channelStateImage

/-- READ DRIFT TABLE (R182). -/
def execReadDriftTable (s : State) : Host.Outcome State Fault Refusal :=
  s.execute .readDriftTable [] fun _ s => s.answer s.driftImage

/-- READ SETUP (R182, R206): the stored record, accepted or not, its unused bin-table rows reading zero (log 29). -/
def execReadSetup (s : State) : Host.Outcome State Fault Refusal := s.execute .readSetup [] fun _ s => s.answer s.setupImage

/-! ### The archive's commands (R169, R171, R172, R184) -/

/-- SEEK (R171). -/
def execSeek (bits : List Bool) (s : State) : Host.Outcome State Fault Refusal :=
  s.execute .seek bits fun args s =>
    let m := s.retention
    let x := leNat args
    if x < m.oldestKept then (s.setPort { s.port with cursor := m.oldestKept }).result .badArgument
    else if m.newest + 1 < x then (s.setPort { s.port with cursor := m.newest + 1 }).result .badArgument
    else (s.setPort { s.port with cursor := x }).result .done

/-- READ ENTRIES (R172, R184): a stream of images begins; none is formed yet. -/
def execReadEntries (s : State) : Host.Outcome State Fault Refusal := s.execute .readEntries [] fun _ s => s.answer []

/-- The bytes still to be clocked out up to the end of the image in hand, or of the next one with the lead bytes before it. -/
def Port.bytesLeft (p : Port) : Nat :=
  if p.betweenImages then p.leads + Config.entryImageLength else (p.image.getD []).length - p.imageIndex

/-- ENTRY_IMAGE (R172): in the stream, bytes are clocked out up to the end of one image, and the cursor advances at its last byte. Bytes
beyond that one are not taken (log 17). -/
def execEntryImage (s : State) (bytes : Nat := 63) : Host.Outcome State Fault Refusal :=
  atWork s fun s =>
    if s.port.command = some .readEntries ∧ s.port.image.isSome then State.clock (min bytes s.port.bytesLeft) s else s

/-- RELEASE (R169). DESIGN CHOICE: the pointer record is written at that instant (log 40). -/
def execRelease (bits : List Bool) (s : State) : Host.Outcome State Fault Refusal :=
  s.execute .release bits fun args s =>
    let m := s.retention
    let x := leNat args
    if m.newest < x then s.result .badArgument
    else if x ≤ m.releasePoint then s.result .done
    else (s.setRetention { m with releasePoint := x }).result .done

/-- ARCHIVE_WRITE_START (R163 to R165). -/
def execArchiveWriteStart (s : State) : Host.Outcome State Fault Refusal := atWork s State.writeStart

/-- ARCHIVE_WRITE_COMPLETE (R166). -/
def execArchiveWriteComplete (s : State) : Host.Outcome State Fault Refusal := atWork s State.writeComplete

/-! ### Notices, label, drift table, pipeline restart (R185, R189) -/

/-- CLEAR NOTICES (R189). -/
def execClearNotices (bits : List Bool) (s : State) : Host.Outcome State Fault Refusal :=
  s.execute .clearNotices bits fun args s =>
    (s.setPort { s.port with notices := s.port.notices &&& ~~~BitVec.ofNat 16 (leNat args) }).result .done

/-- SET LABEL (R19, R185): taken in LOCKED only. -/
def execSetLabel (bits : List Bool) (s : State) : Host.Outcome State Fault Refusal :=
  s.execute .setLabel bits fun args s =>
    if s.tb.timeState = .locked then (s.setTb { s.tb with pendingLabel := some (BitVec.ofNat 32 (leNat args)) }).result .done
    else s.result .refused

/-- CLEAR DRIFT TABLE (R23). DESIGN CHOICE: the sixteen bins are written at that instant (log 40). -/
def execClearDriftTable (s : State) : Host.Outcome State Fault Refusal :=
  s.execute .clearDriftTable [] fun _ s =>
    (s.setRetention { s.retention with drift := Vector.replicate 16 { estimate := 0, weight := 0 } }).result .done

/-- PIPELINE RESTART (R130). -/
def execPipelineRestart (s : State) : Host.Outcome State Fault Refusal :=
  s.execute .pipelineRestart [] fun _ s => (s.setRestartPending true).result .done

end Sys2Proof.Machine
end

