-- ==== Sys2Proof/Machine/Start.lean ====
section
/-! DEFINITION. The commands of the setup store and of the start (chapter 11). -/

namespace Sys2Proof.Machine

/-- STATION RESTART (R186): a start is ordered; the station works on until it begins. -/
def execStationRestart (s : State) : Host.Outcome State Fault Refusal :=
  s.execute .stationRestart [] fun _ s =>
    s.setPort { s.port with lastResult := .done, hold := .restartWait, restartOpen := true }

/-- PROGRAM SETUP carried out (R198): the pin and the check word of the supplied record decide. -/
def State.programSetup (s : State) (enable : Bool) (record : List Byte) : State :=
  if !enable then s.result .refused
  else if !recordMatches record then s.result .badArgument
  else (s.setStore { s.store with writing := some record }).setPort { s.port with lastResult := .busy, hold := .setupWrite }

/-- PROGRAM SETUP (R198): the pin is sampled at its execution. -/
def execProgramSetup (enable : Bool) (bits : List Bool) (s : State) : Host.Outcome State Fault Refusal :=
  s.execute .programSetup bits fun record s =>
    (s.setPins { s.pins with setupEnable := enable }).programSetup enable record

/-- SETUP_WRITE_COMPLETE (R180, R187, R199): the stored record is the new one, and DONE is left for the next READ STATUS. -/
def execSetupWriteComplete (s : State) : Host.Outcome State Fault Refusal :=
  atWork s fun s =>
    match s.store.writing with
    | some record =>
      (s.setStore { stored := record, writing := none }).setPort
        { s.port with lastResult := .done, hold := .none, clearsResult := false }
    | none => s

/-- POWER_ON (R200): the supply reaches its operating level, and a start begins. -/
def execPowerOn (s : State) : Host.Outcome State Fault Refusal :=
  .next (s.setPins { s.pins with supply := true }).beginStart

/-- POWER_LOSS (R167, R199): everything but the memories is lost. Of the writes to retention memory only the write of an entry can be in
progress then (log 40). -/
def execPowerLoss (s : State) : Host.Outcome State Fault Refusal :=
  .next ((s.setPins { s.pins with supply := false }).blank .off)

/-- RESET_ASSERT (R200): a start begins at once, or again, and is held. -/
def execResetAssert (s : State) : Host.Outcome State Fault Refusal :=
  let s' := s.setPins { s.pins with resetAsserted := true }
  .next (if s.phase = .off then s' else s'.beginStart)

/-- RESET_RELEASE (R200): a held start proceeds. -/
def execResetRelease (s : State) : Host.Outcome State Fault Refusal :=
  let s' := s.setPins { s.pins with resetAsserted := false }
  .next (if s.phase = .held then s'.beginStart else s')

/-- RESTART_START (R186): the start that STATION RESTART ordered begins once the transaction that carried it has ended and the write queue
is empty; a later transaction is abandoned by it (R192). -/
def execRestartStart (s : State) : Host.Outcome State Fault Refusal :=
  atWork s fun s =>
    if s.port.hold = .restartWait ∧ s.port.restartOpen = false ∧ s.archive.queue = [] then s.beginStart else s

/-- START_COMPLETE (R201). -/
def execStartComplete (samples : StartSamples) (s : State) : Host.Outcome State Fault Refusal :=
  .next (if s.phase = .starting then s.completeStart samples else s)

end Sys2Proof.Machine
end

