-- ==== Sys2Proof/Machine/Dispatch.lean ====
section
/-! DEFINITION. exec: one arm per command, in the table's order. -/

namespace Sys2Proof.Machine

def exec (i : Instr) (s : State) : Host.Outcome State Fault Refusal :=
  match i with
  | .ownBoundary oscTemp => Sys2Proof.Machine.execOwnBoundary oscTemp s
  | .referenceEdge tick oscTemp others => Sys2Proof.Machine.execReferenceEdge tick oscTemp others s
  | .referenceWindowEnd => Sys2Proof.Machine.execReferenceWindowEnd s
  | .markRise tick => Sys2Proof.Machine.execMarkRise tick s
  | .leaderPulse tick oscTemp => Sys2Proof.Machine.execLeaderPulse tick oscTemp s
  | .fallbackPulse oscTemp others => Sys2Proof.Machine.execFallbackPulse oscTemp others s
  | .markAbsent => Sys2Proof.Machine.execMarkAbsent s
  | .leaderMarkEnd => Sys2Proof.Machine.execLeaderMarkEnd s
  | .fallbackMark => Sys2Proof.Machine.execFallbackMark s
  | .fallbackMarkEnd => Sys2Proof.Machine.execFallbackMarkEnd s
  | .ownSlotStart => Sys2Proof.Machine.execOwnSlotStart s
  | .slotStart slot => Sys2Proof.Machine.execSlotStart slot s
  | .huntTimeout => Sys2Proof.Machine.execHuntTimeout s
  | .framingFault cells => Sys2Proof.Machine.execFramingFault cells s
  | .frameReceived cells => Sys2Proof.Machine.execFrameReceived cells s
  | .slotEnd => Sys2Proof.Machine.execSlotEnd s
  | .transmissionComplete => Sys2Proof.Machine.execTransmissionComplete s
  | .collided cell => Sys2Proof.Machine.execCollided cell s
  | .summaryWindow others => Sys2Proof.Machine.execSummaryWindow s others
  | .summaryOrRead bits stopAsserted => Sys2Proof.Machine.execSummaryOrRead bits stopAsserted s
  | .summaryHuntEnd => Sys2Proof.Machine.execSummaryHuntEnd s
  | .rowClose => Sys2Proof.Machine.execRowClose s
  | .chainWordSend => Sys2Proof.Machine.execChainWordSend s
  | .chainWordReceived rise asserted cells => Sys2Proof.Machine.execChainWordReceived rise asserted cells s
  | .conversion channel k raw => Sys2Proof.Machine.execConversion channel k raw s
  | .filteredLevelChange input high => Sys2Proof.Machine.execFilteredLevelChange input high s
  | .archiveWriteStart => Sys2Proof.Machine.execArchiveWriteStart s
  | .archiveWriteComplete => Sys2Proof.Machine.execArchiveWriteComplete s
  | .transactionBegin => Sys2Proof.Machine.execTransactionBegin s
  | .unknownCommand code => Sys2Proof.Machine.execUnknownCommand code s
  | .transactionEnd edges => Sys2Proof.Machine.execTransactionEnd edges s
  | .readStatus => Sys2Proof.Machine.execReadStatus s
  | .statusResultClocked => Sys2Proof.Machine.execStatusResultClocked s
  | .seek bits => Sys2Proof.Machine.execSeek bits s
  | .readEntries => Sys2Proof.Machine.execReadEntries s
  | .entryImage bytes => Sys2Proof.Machine.execEntryImage s bytes
  | .release bits => Sys2Proof.Machine.execRelease bits s
  | .readRow bits => Sys2Proof.Machine.execReadRow bits s
  | .readRoster => Sys2Proof.Machine.execReadRoster s
  | .readChannelState => Sys2Proof.Machine.execReadChannelState s
  | .readDriftTable => Sys2Proof.Machine.execReadDriftTable s
  | .readSetup => Sys2Proof.Machine.execReadSetup s
  | .clearNotices bits => Sys2Proof.Machine.execClearNotices bits s
  | .setLabel bits => Sys2Proof.Machine.execSetLabel bits s
  | .clearDriftTable => Sys2Proof.Machine.execClearDriftTable s
  | .pipelineRestart => Sys2Proof.Machine.execPipelineRestart s
  | .stationRestart => Sys2Proof.Machine.execStationRestart s
  | .programSetup enable bits => Sys2Proof.Machine.execProgramSetup enable bits s
  | .setupWriteComplete => Sys2Proof.Machine.execSetupWriteComplete s
  | .powerOn => Sys2Proof.Machine.execPowerOn s
  | .powerLoss => Sys2Proof.Machine.execPowerLoss s
  | .resetAssert => Sys2Proof.Machine.execResetAssert s
  | .resetRelease => Sys2Proof.Machine.execResetRelease s
  | .restartStart => Sys2Proof.Machine.execRestartStart s
  | .startComplete samples => Sys2Proof.Machine.execStartComplete samples s
  | .markPairRelease => Sys2Proof.Machine.execMarkPairRelease s
  | .frameFirstRise tick asserted => Sys2Proof.Machine.execFrameFirstRise tick asserted s
  | .summaryWindowRise tick asserted => Sys2Proof.Machine.execSummaryWindowRise tick asserted s
  | .summaryWindowEnd => Sys2Proof.Machine.execSummaryWindowEnd s
  | .chainWordEnd => Sys2Proof.Machine.execChainWordEnd s

end Sys2Proof.Machine
end

