-- ==== Sys2Proof/Safety.lean ====
section
/-! DEFINITION. What claims about the station mean by a sound state: the ranges and the agreements between blocks that the manual says
hold at all times, one predicate for each block. -/

namespace Sys2Proof.Machine

/-- The station runs and is not HALTED. -/
def State.AtHut (s : State) : Prop := s.phase = .running ∧ s.member.state ≠ .halted

/-- The transaction awaits the command `c`: its command byte in COMMAND, or its further argument bits in ARGUMENTS. With `bits`, its
argument bits so far are `args` (R177). -/
def State.Takes (s : State) (c : PortCommand) (bits args : List Bool) : Prop :=
  s.phase = .running ∧
  ((s.port.trans = .command ∧ args = bits) ∨
    (s.port.trans = .arguments ∧ s.port.command = some c ∧ args = s.port.args ++ bits))

/-- The command classifies a pulse of the given rise at `tick`: a leader pulse, which marks its rise, or a fallback pulse, which marks the
instant 5 ms before it (R27). `marked` is that attributed boundary. -/
def Classifies (c : Instr) (rise : Int) (kind : MarkKind) (marked : Int) (tick : Nat) : Prop :=
  (∃ temp, c = .leaderPulse tick temp ∧ kind = .leader ∧ marked = rise ∧ (tick : Int) - rise ≤ 20000) ∨
  (∃ temp others, c = .fallbackPulse temp others ∧ kind = .fallback ∧ marked = rise - 50000 ∧ tick = (rise + 20000).toNat)

/-- A position against the nearest own boundary (R4). -/
def State.PhaseOf (s : State) (marked phase : Int) : Prop :=
  phase = if marked < 5000000 then marked else marked - s.tb.epochLength

/-- A pulse of this attributed boundary is taken: it lies in the span of the watch of the epoch in progress, or of the boundary to come,
and that watch holds no mark (R28, R29). -/
def State.TakesMark (s : State) (marked phase : Int) : Prop :=
  -20000 ≤ phase ∧ phase < 50000 ∧
  if marked < 5000000 then s.mark.watch.isOpen = true ∧ s.mark.watch.taken = false else s.mark.nextWatch.taken = false

/-- What a step to a mark leaves (R7, R13, R16, R29): the new epoch stands at the ticks passed since the attributed boundary, the station
follows the mark, unless a row was open and its cut close made it leader, the new watch and the new row hold the mark, and WARMING rises
with the flush (R98, R128). -/
structure SteppedToMark (s t : State) (kind : MarkKind) (marked phase : Int) (tick : Nat) : Prop where
  tick : t.tb.tick = ((tick : Int) - marked).toNat
  timeState : t.tb.timeState =
    if s.table.openRow ≠ none ∧ t.member.state = .member ∧ t.member.number ≠ none ∧ t.mark.currentLeader = t.member.number then .holdover
    else .followAcquire
  time : t.tb.firstEdgeTaken = true ∧ t.tb.missCount = 0 ∧ t.tb.settleCount = 0 ∧ t.tb.f = s.tb.f ∧ t.tb.phaseTerm = 0
  raised : t.raised.getLsbD 0 = true ∧ t.port.notices.getLsbD 0 = true
  watch : t.mark.watch.taken = true ∧ t.mark.nextWatch.taken = false
  warming : ∀ i : Channel, s.setup.channels[i].kind ≠ .off → s.warmingHolds = false →
    t.warmingHolds = true ∧ t.raised.getLsbD 6 = true ∧ t.port.notices.getLsbD 6 = true
  row : ∃ r, t.table.openRow = some r ∧ r.markKind = kind ∧ r.markPhase = some (max (-32767) (min 32767 phase))

/-- The ranges of the timebase (R2, R3, R8, R9, R17, R22, R103). -/
structure Timebase.Sound (tb : Timebase) : Prop where
  correction : -10000 ≤ tb.f ∧ tb.f ≤ 10000
  phaseTerm : -5000 ≤ tb.phaseTerm ∧ tb.phaseTerm ≤ 5000
  carry : -99 ≤ tb.carry ∧ tb.carry ≤ 99
  length : 9994900 ≤ tb.epochLength ∧ tb.epochLength ≤ 10005100
  epochs : tb.epochsSinceStart ≤ maxCount32
  misses : tb.missCount ≤ 3
  settle : tb.settleCount ≤ 60
  age : tb.sourceAge ≤ maxCount32
  acquire : tb.timeState = .refAcquire ∨ tb.timeState = .followAcquire → tb.acquireCount ≤ 3

/-- The ranges of a drift bin (R21, R24). -/
structure DriftBin.Sound (b : DriftBin) : Prop where
  estimate : -1000000 ≤ b.estimate ∧ b.estimate ≤ 1000000
  weight : b.weight ≤ 255
  empty : b.weight = 0 → b.estimate = 0

/-- Every report that a row holds carries a source age in range (R17). -/
def EpochTable.AgesSound (t : EpochTable) : Prop :=
  ∀ r ∈ t.rows, ∀ (k : Station) (x : Report), r.cells[k].report = some x → x.sourceAge ≤ maxCount32

/-- The timebase, its drift table and the source ages that it may take from a leader's report are in range. -/
structure State.TimeSound (s : State) : Prop where
  timebase : s.tb.Sound
  drift : ∀ i : Fin 16, s.retention.drift[i].Sound
  ages : s.table.AgesSound

/-- The ring of rows: at most four, and none but the most recently opened is open (R83). -/
def EpochTable.Sound (t : EpochTable) : Prop := t.rows.length ≤ 4 ∧ ∀ r ∈ t.rows.tail, r.isOpen = false

/-- A station that is not MEMBER drives no mark and sends no report, and only a MEMBER or JOINING station drives the summary window (R30,
R42, R47, R59). -/
structure State.Silent (s : State) : Prop where
  mark : s.member.state ≠ .member → s.mark.drive = .released ∧ s.mark.led = false
  report : s.member.state ≠ .member → s.line.tx = none
  window : s.member.state ≠ .member → s.member.state ≠ .joining → s.line.summaryDriving = false

/-- UNNUMBERED and HALTED stations hold no number, and all others hold one (section 4.3). -/
def Member.Sound (m : Member) : Prop := m.number = none ↔ m.state = .unnumbered ∨ m.state = .halted

/-- The counts of the mark, data line and membership units (chapters 2 to 4), and the cells of the byte being received (R46). -/
structure State.CountsSound (s : State) : Prop where
  leaderless : s.mark.leaderless ≤ 65535
  collisions : s.line.collisions ≤ 255
  quiet : s.member.quiet ≤ 255
  repeats : s.member.repeatCount ≤ 3
  missed : ∀ k : Station, s.member.roster[k].missed ≤ 3
  cells : ∀ x, s.line.rx = some x → x.cells.length ≤ 9

/-- The ranges of a front-end (section 6.1). -/
structure FrontEnd.Sound (f : FrontEnd) : Prop where
  bias : -15 ≤ f.bias ∧ f.bias ≤ 15
  run : f.runCount ≤ 16
  settle : f.settle ≤ 4
  inRange : f.inRange ≤ 64

/-- The windows of a decimator channel (R121, R125, R128). -/
structure DecChannel.Sound (d : DecChannel) : Prop where
  stage1 : d.stage1.length ≤ 16
  count : d.stage1Count ≤ 7
  stage2 : d.stage2.length ≤ 32
  warming : d.warming = true → d.value = none

/-- The setup store holds a record of its full length, and writes none but such (R193, R198). -/
structure SetupStore.Sound (x : SetupStore) : Prop where
  stored : x.stored.length = Config.setupLength
  writing : ∀ r, x.writing = some r → r.length = Config.setupLength

/-- Every front-end and every decimator channel is in range. -/
def State.ChannelsSound (s : State) : Prop := ∀ i : Channel, s.front[i].Sound ∧ s.dec[i].Sound

/-- A channel setup that validation can leave in force (R195). -/
structure ChannelSetup.Sound (c : ChannelSetup) : Prop where
  rows : 1 ≤ c.rows.length ∧ c.rows.length ≤ 16
  start : c.startBin < c.rows.length
  glide : ∀ g, c.glideLength = some g → 2 ≤ g

/-- A field channel's applied coefficients are those of its bin's row, or glide toward them (R144, R147). -/
structure CorrChannel.Sound (x : CorrChannel) (c : ChannelSetup) : Prop where
  bin : x.bin < c.rows.length
  rest : x.glide = none → x.offset = (c.row x.bin).offset ∧ x.scale = (c.row x.bin).scale
  glide : ∀ g, x.glide = some g →
    (∃ length, c.glideLength = some length ∧ 1 ≤ g.counter ∧ g.counter < length ∧ x.offset = g.offsetAt length ∧
      x.scale = g.scaleAt length) ∧
    g.targetOffset = (c.row x.bin).offset ∧ g.targetScale = (c.row x.bin).scale

/-- Every channel setup in force is sound, and at work so is every channel of the correction unit. -/
def State.CorrectionSound (s : State) : Prop :=
  (∀ i : Channel, s.setup.channels[i].Sound) ∧
  (s.phase = .running → ∀ i : Channel, s.setup.channels[i].kind.isField = true → s.corr[i].Sound s.setup.channels[i])

/-- The slots form one run in ring order with rising sequence numbers, and the pointers name its ends (R158, R161, R168). -/
structure Retention.RingSound (m : Retention) : Prop where
  size : m.slots.length ≤ Config.archiveSlots
  rising : (m.slots.map Slot.seq).Pairwise (· < ·)
  run : ∀ i, (h : i + 1 < m.slots.length) → m.slots[i + 1].index = (m.slots[i].index + 1) % Config.archiveSlots
  empty : m.slots = [] → m.newest = 0 ∧ m.oldestKept = 1
  oldest : ∀ x, m.slots.head? = some x → m.oldestKept = x.seq
  newest : ∀ x, m.slots.getLast? = some x → m.newest = x.seq
  next : m.newest < m.nextSeq ∧ m.nextSeq ≤ maxCount32
  release : m.releasePoint ≤ m.newest
  first : 1 ≤ m.oldestKept

/-- The ring, the write queue, the read cursor and the stream of READ ENTRIES agree (R161, R162, R166, R171, R172). -/
structure State.ArchiveSound (s : State) : Prop where
  ring : s.retention.RingSound
  queue : s.archive.queue.length ≤ Config.queueLength
  order : (s.archive.queue.map Entry.seq).Pairwise (· < ·)
  waiting : ∀ e ∈ s.archive.queue, s.retention.newest < e.seq ∧ e.seq < s.retention.nextSeq
  writing : ∀ k, s.archive.writing = some k →
    s.archive.queue ≠ [] ∧ k = s.retention.nextSlot ∧ s.retention.slots.length < Config.archiveSlots
  cursor : s.retention.oldestKept ≤ s.port.cursor ∧ s.port.cursor ≤ s.retention.newest + 1
  sending : ∀ q, s.port.sending = some q → q ≤ s.retention.newest
  stream : s.port.command = some .readEntries → ∀ image, s.port.image = some image → 0 < s.port.leads ∨ s.port.imageIndex < image.length

/-- A byte of a slot's words as they are read (R170): a word with one bit in error as it was written, any other as it is held. -/
def Slot.byteRead (x : Slot) (n : Nat) : Byte :=
  (x.words.flatMap fun w => leBytes 8 (if w.errors = 1 then w.written else w.held).toNat).getD n 0

/-- What an image and the entry it shows are, when READ ENTRIES forms them at the state `s` (R170, R172): the entry of lowest sequence number
at or above the cursor, with its words as read but for the unassigned bit 7 of offset 10 and the bytes after the report body, which are 0
(R204), and with none there the entry in write, or none. Words with three bits in error or more read
as free values, and the image's bytes are not stated for them. -/
structure State.ShowsEntry (s : State) (image : List Byte) (entry : Option Nat) : Prop where
  length : image.length = 61
  present : ∀ x rest older, s.retention.slots = older ++ x :: rest → (∀ y ∈ older, y.seq < s.port.cursor) → s.port.cursor ≤ x.seq →
    entry = some x.seq ∧
    ((∀ w ∈ x.words, w.errors ≤ 2) →
      ∃ status : ReadStatus,
        image.take 5 = uField 4 x.seq ++ [byte status.code] ∧
        (∀ n, 5 ≤ n → n < 61 → image.getD n 0 =
          if n = 10 then x.byteRead 10 &&& 0x7F#8 else if 13 + (x.byteRead 12).toNat ≤ n then 0 else x.byteRead n) ∧
        (status = .damaged ↔ ∃ w ∈ x.words, w.errors = 2) ∧
        (status = .clean ↔ ∀ w ∈ x.words, w.errors = 0) ∧ (status = .clean ∨ status = .corrected ∨ status = .damaged) ∧
        (∀ e : Entry, x.words = e.words → image = entryImageBytes x.seq .clean e.tail))
  absent : (∀ y ∈ s.retention.slots, y.seq < s.port.cursor) →
    entry = none ∧
    (∀ e rest slot, s.archive.queue = e :: rest → s.archive.writing = some slot → image = uField 4 e.seq ++ 4#8 :: List.replicate 56 0) ∧
    (s.archive.writing = none → image = uField 4 s.port.cursor ++ 0#8 :: List.replicate 56 0)

/-- A channel entry that a report can carry (R93). -/
structure ChannelEntry.Sound (e : ChannelEntry) : Prop where
  kind : e.kind ≠ .off
  value : e.value.isSome = e.quality.hasValue
  range : ∀ v, e.value = some v → -2147483648 ≤ v ∧ v ≤ 2147483647
  vec : e.vec.isSome = e.kind.isVector
  fields : ∀ x, e.vec = some x → (-128 ≤ x.bias ∧ x.bias ≤ 127) ∧ x.bin < 16

/-- A report whose every field fits the frame (section 12.3). -/
structure Report.Sound (r : Report) : Prop where
  station : r.station < 256
  rank : r.rank ≤ 2
  sourceAge : r.sourceAge ≤ maxCount32
  markPhase : -32768 ≤ r.markPhase ∧ r.markPhase ≤ 32767
  entries : ∀ e ∈ r.entries, e.Sound
  ascending : (r.entries.map fun e => e.index.val).Pairwise (· < ·)
  deltaF : ∀ d, r.deltaF = some d → (-2147483648 ≤ d.value ∧ d.value ≤ 2147483647) ∧ d.station < 16

end Sys2Proof.Machine
end

