-- ==== Sys2Proof/WellFormed.lean ====
section
/-! DEFINITION. The checks on a command's operands that their types do not already make. A command that fails its check spells no
event that the manual describes; exec applies the rule of its row to the operands as they stand (log 4). -/

namespace Sys2Proof

/-- An epoch is shorter than 10,005,101 ticks, since the phase term and f add at most 5,100 ticks (R83, R103). -/
def tickInEpoch (t : Nat) : Bool := decide (t ≤ 10005100)

/-- The fifteen command codes of section 12.4. -/
def commandCodes : List Nat :=
  [0x01, 0x02, 0x03, 0x04, 0x05, 0x06, 0x07, 0x08, 0x09, 0x10, 0x11, 0x12, 0x13, 0x14, 0x15]

/-- Whether a command byte names a command of section 12.4. -/
def namesCommand (code : Byte) : Bool := commandCodes.contains code.toNat

/-- A frame is at most 520 cells, and the centre of its first one is read with its rise (R47, R53). -/
def frameLevels (cells : List Bool) : Bool := decide (1 ≤ cells.length) && decide (cells.length ≤ 519)

/-- The rise of a chain word still being read lies less than ten cells before the own boundary, and nine cells follow its start cell (R66). -/
def chainLevels (rise : Int) (cells : List Bool) : Bool :=
  decide (-10416 ≤ rise) && decide (rise ≤ 10005100) && decide (cells.length ≤ 9)

/-- Argument bits of a command that takes `bytes` argument bytes (section 10.2). -/
def argumentBits (bytes : Nat) (bits : List Bool) : Bool := decide (bits.length ≤ 8 * bytes)

/-- The operand checks, command by command. -/
def Instr.wellFormed : Instr → Bool
  | .referenceEdge t _ _ => tickInEpoch t
  | .markRise t => tickInEpoch t
  | .leaderPulse t _ => tickInEpoch t
  | .frameFirstRise t _ => tickInEpoch t
  | .summaryWindowRise t _ => tickInEpoch t
  | .frameReceived cells => frameLevels cells
  | .collided cell => decide (cell < 520)
  | .unknownCommand code => !namesCommand code
  | .programSetup _ bits => argumentBits Config.setupLength bits
  | .seek bits => argumentBits 4 bits
  | .release bits => argumentBits 4 bits
  | .setLabel bits => argumentBits 4 bits
  | .clearNotices bits => argumentBits 2 bits
  | .readRow bits => argumentBits 1 bits
  | .entryImage bytes => decide (bytes ≤ 63)
  | .chainWordReceived rise _ cells => chainLevels rise cells
  | .ownBoundary _ => true
  | .referenceWindowEnd => true
  | .fallbackPulse _ _ => true
  | .markAbsent => true
  | .leaderMarkEnd => true
  | .fallbackMark => true
  | .fallbackMarkEnd => true
  | .ownSlotStart => true
  | .slotStart _ => true
  | .huntTimeout => true
  | .framingFault cells => frameLevels cells
  | .slotEnd => true
  | .transmissionComplete => true
  | .summaryWindow _ => true
  | .summaryOrRead _ _ => true
  | .summaryHuntEnd => true
  | .rowClose => true
  | .chainWordSend => true
  | .conversion _ _ _ => true
  | .filteredLevelChange _ _ => true
  | .archiveWriteStart => true
  | .archiveWriteComplete => true
  | .transactionBegin => true
  | .transactionEnd _ => true
  | .readStatus => true
  | .statusResultClocked => true
  | .readEntries => true
  | .readRoster => true
  | .readChannelState => true
  | .readDriftTable => true
  | .readSetup => true
  | .clearDriftTable => true
  | .pipelineRestart => true
  | .stationRestart => true
  | .setupWriteComplete => true
  | .powerOn => true
  | .powerLoss => true
  | .resetAssert => true
  | .resetRelease => true
  | .restartStart => true
  | .startComplete _ => true
  | .markPairRelease => true
  | .summaryWindowEnd => true
  | .chainWordEnd => true

end Sys2Proof
end

