-- ==== Sys2Proof/Certificates/Slice0/Obligations.lean ====
section
/-! DEFINITION. The statements for the provers. Each is about every state and every operand that meets its hypotheses. -/

section

open Sys2Proof Sys2Proof.Machine

/-! ### The queue -/

/-- A step takes the command at the front of the queue. -/
def Obligations.StepRunsFrontCommand : Prop :=
  ∀ (c : Instr) (rest : List Instr) (s : State), step (s.setPending (c :: rest)) = exec c (s.setPending rest)

/-- Every command has a next state in every state, and none touches the queue. -/
def Obligations.EveryCommandAnswersNext : Prop :=
  ∀ (c : Instr) (s : State), ∃ t, exec c s = .next t ∧ t.pending = s.pending

/-! ### Setup store and settings -/

/-- The stored record changes only at the completion of a setup write, to the record being written, and a setting in force only at the
commands of supply, RESET and the start of STATION RESTART. The settings that a start takes from an accepted record are its fields, each one
out of its range replaced by its default; a FIELD channel's settings are judged as such, and its source, its start bin and the reference of
the field check against the settings in force; a bin table and the field check, whose count is then at least 1, are taken or replaced whole.
SETUP_FAULT's share of the store holds exactly when a station field, a kind, an input or the field check is replaced, or a used channel
field; the decimator's exactly when a table is rejected. -/
def Obligations.SettingsAreValidatedAndKept : Prop :=
  (∀ (c : Instr) (s t : State), exec c s = .next t →
    (t.store.stored = s.store.stored ∨
      (c = .setupWriteComplete ∧ s.phase = .running ∧ s.store.writing = some t.store.stored)) ∧
    (c ≠ .powerOn → c ≠ .powerLoss → c ≠ .resetAssert → c ≠ .resetRelease → c ≠ .restartStart → t.setup = s.setup)) ∧
  (∀ (record : List Byte) (g : Setup) (u : Nat → Nat → Nat), g = acceptedSetup record →
    u = (fun offset size => leNat ((record.drop offset).take size)) →
    let rowAt := fun (i : Channel) (r : Nat) =>
      ({ edge := sAt record (35 + 221 * i.val + 12 * r) 4, offset := sAt record (39 + 221 * i.val + 12 * r) 4,
         scale := sAt record (43 + 221 * i.val + 12 * r) 4 } : BinRow)
    let tableGood := fun i : Channel =>
      1 ≤ u (34 + 221 * i.val) 1 ∧ u (34 + 221 * i.val) 1 ≤ 16 ∧
      (∀ r < u (34 + 221 * i.val) 1, -60000 ≤ (rowAt i r).edge ∧ (rowAt i r).edge ≤ 80000 ∧ -100000000 ≤ (rowAt i r).offset ∧
        (rowAt i r).offset ≤ 100000000 ∧ -1000000 ≤ (rowAt i r).scale ∧ (rowAt i r).scale ≤ 1000000) ∧
      ∀ r, r + 1 < u (34 + 221 * i.val) 1 → (rowAt i r).edge < (rowAt i (r + 1)).edge
    let sourceFault := fun (at' : Nat) (needed : ChannelKind) =>
      2 < u at' 1 ∨ (u at' 1 = 2 ∧ (u (at' + 1) 1 % 16 = 0 ∨ 8 < u (at' + 1) 1 % 16)) ∨
      (u at' 1 = 1 ∧ ∃ j : Channel, u (at' + 1) 1 / 16 % 4 = j.val ∧ g.channels[j].kind ≠ needed)
    let checkFault := sourceFault 991 .fieldF ∨ sAt record 993 4 < -1000000 ∨ 1000000 < sAt record 993 4 ∨ 1000000 < u 997 4 ∨ u 1001 1 = 0
    g.rejected = false ∧ g.noticeMask = BitVec.ofNat 16 (u 4 2) ∧
    (u 0 1 / 128 % 2 = 0 → g.fixedNumber = none) ∧
    (∀ k : Station, u 0 1 / 128 % 2 = 1 → u 0 1 % 16 = k.val + 1 → g.fixedNumber = some k) ∧
    (u 0 1 / 128 % 2 = 1 → u 0 1 % 16 = 0 ∨ 8 < u 0 1 % 16 → g.fixedNumber = none ∧ g.recordFault = true) ∧
    g.referenceEnable = decide (u 1 1 ≠ 0) ∧ (1 < u 1 1 → g.recordFault = true) ∧
    (1 ≤ u 2 1 → u 2 1 ≤ 48 → g.holdoverHours = u 2 1) ∧
    (u 2 1 = 0 ∨ 48 < u 2 1 → g.holdoverHours = 4 ∧ g.recordFault = true) ∧
    g.keepNewest = decide (u 3 1 = 1) ∧ (1 < u 3 1 → g.recordFault = true) ∧
    (∀ i : Channel, g.channels[i].kind =
        (match u (6 + 221 * i.val) 1 with
          | 0 => .fieldX | 1 => .fieldY | 2 => .fieldZ | 3 => .fieldF | 4 => .temp | _ => .off) ∧
      (5 < u (6 + 221 * i.val) 1 → g.recordFault = true)) ∧
    (∀ (i : Channel) (o : Nat), o = 6 + 221 * i.val → g.channels[i].kind.isField = true →
      (1 ≤ u (o + 1) 2 → u (o + 1) 2 ≤ 1000 → g.channels[i].weight = u (o + 1) 2) ∧
      (u (o + 1) 2 = 0 ∨ 1000 < u (o + 1) 2 → g.channels[i].weight = 1 ∧ g.recordFault = true) ∧
      (u (o + 21) 2 ≤ 2000 → g.channels[i].hysteresis = u (o + 21) 2) ∧
      (2000 < u (o + 21) 2 → g.channels[i].hysteresis = 0 ∧ g.recordFault = true) ∧
      (u (o + 23) 1 = 0 → g.channels[i].glideLength = none) ∧
      (u (o + 23) 1 = 1 → 2 ≤ u (o + 24) 1 → g.channels[i].glideLength = some (u (o + 24) 1)) ∧
      (1 < u (o + 23) 1 ∨ (u (o + 23) 1 = 1 ∧ u (o + 24) 1 < 2) → g.channels[i].glideLength = none ∧ g.recordFault = true) ∧
      (1 ≤ u (o + 25) 2 → u (o + 25) 2 ≤ 600 → g.channels[i].staleLimit = u (o + 25) 2) ∧
      (u (o + 25) 2 = 0 ∨ 600 < u (o + 25) 2 → g.channels[i].staleLimit = 60 ∧ g.recordFault = true) ∧
      (u (o + 27) 1 < g.channels[i].rows.length → g.channels[i].startBin = u (o + 27) 1) ∧
      (g.channels[i].rows.length ≤ u (o + 27) 1 → g.channels[i].startBin = 0 ∧ g.recordFault = true) ∧
      (tableGood i → g.channels[i].rows = (List.range (u (o + 28) 1)).map (rowAt i)) ∧
      (¬tableGood i → g.channels[i].rows = [{ edge := -60000, offset := 0, scale := 0 }] ∧ g.recordFault = true) ∧
      (u (o + 19) 1 = 0 → g.channels[i].source = .none) ∧
      (∀ j : Channel, u (o + 19) 1 = 1 → u (o + 20) 1 / 16 % 4 = j.val → g.channels[j].kind = .temp →
        g.channels[i].source = .localChannel j) ∧
      (∀ j : Channel, g.channels[i].source = .localChannel j → g.channels[j].kind = .temp) ∧
      (∀ j : Channel, u (o + 19) 1 = 1 → u (o + 20) 1 / 16 % 4 = j.val → g.channels[j].kind ≠ .temp →
        g.channels[i].source = .none ∧ g.recordFault = true) ∧
      (2 < u (o + 19) 1 ∨ (u (o + 19) 1 = 2 ∧ (u (o + 20) 1 % 16 = 0 ∨ 8 < u (o + 20) 1 % 16)) →
        g.channels[i].source = .none ∧ g.recordFault = true) ∧
      (∀ (k : Station) (j : Channel), u (o + 19) 1 = 2 → u (o + 20) 1 % 16 = k.val + 1 → u (o + 20) 1 / 16 % 4 = j.val →
        g.channels[i].source = .peer k j)) ∧
    (∀ (i : Channel) (o : Nat), o = 6 + 221 * i.val → g.channels[i].kind.isVector = true →
      (1 ≤ u (o + 3) 4 → u (o + 3) 4 ≤ 100000000 → g.channels[i].biasUnit = u (o + 3) 4) ∧
      (u (o + 3) 4 = 0 ∨ 100000000 < u (o + 3) 4 → g.channels[i].biasUnit = 1000000 ∧ g.recordFault = true) ∧
      (1 ≤ u (o + 7) 4 → u (o + 7) 4 ≤ 8388606 → g.channels[i].threshold = u (o + 7) 4) ∧
      (u (o + 7) 4 = 0 ∨ 8388606 < u (o + 7) 4 → g.channels[i].threshold = 4194304 ∧ g.recordFault = true)) ∧
    (∀ i : Channel, g.channels[i].kind = .temp →
      g.channels[i].gain = sAt record (17 + 221 * i.val) 4 ∧ g.channels[i].offset = sAt record (21 + 221 * i.val) 4) ∧
    (∃ x, g.stage = some x ∧ (x.table1 = (List.range 16).map fun j => sAt record (891 + 2 * j) 2) ∧
      x.mean = decide (u 890 1 ≠ 0 ∨ (((List.range 16).map fun j => sAt record (891 + 2 * j) 2).sum ≠ 65536)) ∧
      (((List.range 32).map fun j => sAt record (923 + 2 * j) 2).sum = 65536 →
        x.table2 = (List.range 32).map fun j => sAt record (923 + 2 * j) 2) ∧
      (((List.range 32).map fun j => sAt record (923 + 2 * j) 2).sum ≠ 65536 →
        x.table2 = List.replicate 32 2048) ∧
      (g.tableFault = true ↔ ((List.range 32).map fun j => sAt record (923 + 2 * j) 2).sum ≠ 65536 ∨
        (u 890 1 = 0 ∧ ((List.range 16).map fun j => sAt record (891 + 2 * j) 2).sum ≠ 65536))) ∧
    (1 < u 890 1 → g.recordFault = true) ∧
    (∀ i : Fin 2, g.inputs[i].function =
        (match u (987 + 2 * i.val) 1 with
          | 1 => .attend | 2 => .marker | _ => .off) ∧
      g.inputs[i].assertedLow = decide (u (988 + 2 * i.val) 1 = 1) ∧
      (2 < u (987 + 2 * i.val) 1 ∨ 1 < u (988 + 2 * i.val) 1 → g.recordFault = true)) ∧
    (∀ j : Channel, g.check.reference = .localChannel j → g.channels[j].kind = .fieldF) ∧
    (checkFault → g.check.reference = .none ∧ g.recordFault = true) ∧ 1 ≤ g.check.count ∧
    (¬checkFault → g.check.expected = sAt record 993 4 ∧ g.check.tolerance = u 997 4 ∧ g.check.count = u 1001 1 ∧
      (u 991 1 = 0 → g.check.reference = .none) ∧
      (∀ j : Channel, u 991 1 = 1 → u 992 1 / 16 % 4 = j.val → g.check.reference = .localChannel j) ∧
      (∀ (k : Station) (j : Channel), u 991 1 = 2 → u 992 1 % 16 = k.val + 1 → u 992 1 / 16 % 4 = j.val →
        g.check.reference = .peer k j)) ∧
    (g.recordFault = true →
      (u 0 1 / 128 % 2 = 1 ∧ (u 0 1 % 16 = 0 ∨ 8 < u 0 1 % 16)) ∨ 1 < u 1 1 ∨ u 2 1 = 0 ∨ 48 < u 2 1 ∨ 1 < u 3 1 ∨ 1 < u 890 1 ∨
      (∃ i : Fin 2, 2 < u (987 + 2 * i.val) 1 ∨ 1 < u (988 + 2 * i.val) 1) ∨ checkFault ∨
      ∃ (i : Channel) (o : Nat), o = 6 + 221 * i.val ∧
        (5 < u o 1 ∨
          (g.channels[i].kind.isField = true ∧
            (u (o + 1) 2 = 0 ∨ 1000 < u (o + 1) 2 ∨ sourceFault (o + 19) .temp ∨ 2000 < u (o + 21) 2 ∨ 1 < u (o + 23) 1 ∨
              (u (o + 23) 1 = 1 ∧ u (o + 24) 1 < 2) ∨ u (o + 25) 2 = 0 ∨ 600 < u (o + 25) 2 ∨
              g.channels[i].rows.length ≤ u (o + 27) 1 ∨ ¬tableGood i)) ∨
          (g.channels[i].kind.isVector = true ∧
            (u (o + 3) 4 = 0 ∨ 100000000 < u (o + 3) 4 ∨ u (o + 7) 4 = 0 ∨ 8388606 < u (o + 7) 4)))))

/-! ### Timebase -/

/-- A counted own boundary: the number, the counts, the temperature and the length of the new epoch; in HOLDOVER f comes from the drift
table and no phase term enters the length (the model's reading, log 11). The row of the epoch opens with the early mark record, and a row
still open there, which no close of the manual leaves, is marked closed without one (the model's choice, log 13). ATTEND inputs are sampled,
ATTENDED holding while one is asserted and rising when it begins to, and a chained station that heard no chain word counts a quiet boundary,
CHAIN_LOST rising at the third. -/
def Obligations.OwnBoundaryBeginsEpoch : Prop :=
  ∀ (s : State) (temp : Int), s.phase = .running →
    ∃ t f term, exec (.ownBoundary temp) s = .next t ∧
      f = (if s.tb.timeState = .holdover then driftLookup s.retention.drift temp s.tb.f else s.tb.f) ∧
      term = (if s.tb.timeState = .holdover then 0 else s.tb.phaseTerm) ∧
      t.tb = { s.tb with
        tick := 0
        f := f
        epochNumber := match s.tb.held with
          | some h => h.number
          | none => s.tb.epochNumber + 1
        numberFrom := match s.tb.held with
          | some h => if h.byLabel then .label else .relabel
          | none => .counting
        held := none
        epochsSinceStart := min (s.tb.epochsSinceStart + 1) 0xFFFFFFFF
        oscTemp := temp
        epochLength := 10000000 + term + (f + s.tb.carry).tdiv 100
        carry := (f + s.tb.carry) - 100 * (f + s.tb.carry).tdiv 100
        phaseTerm := 0
        windowEdge := s.tb.nextWindowEdge
        nextWindowEdge := false } ∧
      t.retention = s.retention ∧ t.store = s.store ∧ t.setup = s.setup ∧ t.archive = s.archive ∧ t.check = s.check ∧
      t.pins = s.pins ∧ t.line.tx = s.line.tx ∧ t.line.collisions = s.line.collisions ∧ t.member.number = s.member.number ∧
      t.member.state = s.member.state ∧ t.member.roster = s.member.roster ∧ t.port.cursor = s.port.cursor ∧
      t.port.lastResult = s.port.lastResult ∧
      t.table.early = none ∧
      t.table.rows =
        { epoch := t.tb.epochNumber, leader := t.mark.currentLeader
          markKind := (match s.table.early with
            | some (kind, _) => kind
            | none => .none)
          markPhase := (match s.table.early with
            | some (_, phase) => some (max (-32767) (min 32767 phase))
            | none => none)
          summaryOr := 0, cells := Vector.replicate 8 Cell.empty, isOpen := true, cut := false } ::
        (s.table.rows.take 3).map (fun r => { r with isOpen := false }) ∧
      t.events.filtered = s.events.filtered ∧ t.events.edgeSeen = s.events.edgeSeen ∧
      (∀ i : Fin 2, t.events.sampled[i] =
        if s.setup.inputs[i].function = .attend then s.events.filtered[i] else s.events.sampled[i]) ∧
      (t.attendedHolds = true ↔ ∃ i : Fin 2, s.setup.inputs[i].function = .attend ∧ s.events.filtered[i] = true) ∧
      (s.attendedHolds = false → t.attendedHolds = true → t.raised.getLsbD 9 = true ∧ t.port.notices.getLsbD 9 = true) ∧
      t.member.wordSeen = false ∧
      t.member.quiet =
        (if s.setup.fixedNumber = none ∧ s.member.head = false ∧ s.member.state ≠ .halted ∧ s.member.wordSeen = false then
          min (s.member.quiet + 1) 255 else s.member.quiet) ∧
      (t.chainLostHolds = true ↔ 3 ≤ t.member.quiet) ∧
      (s.member.quiet < 3 → 3 ≤ t.member.quiet → t.raised.getLsbD 14 = true ∧ t.port.notices.getLsbD 14 = true)

/-- In HOLDOVER f is set at the own boundary from the drift table, by the first case that applies; entry into HOLDOVER keeps f. `i` is the
bin that covers the temperature read at the boundary. -/
def Obligations.HoldoverBoundaryLooksUpDrift : Prop :=
  (∀ (s : State) (temp : Int) (i : Fin 16), s.phase = .running → s.tb.timeState = .holdover →
    (∀ j : Fin 16, s.retention.drift[j].Sound) →
    (i.val = 0 ∨ -20000 + 4000 * (i.val : Int) ≤ temp) → (i.val = 15 ∨ temp < -20000 + 4000 * (i.val + 1 : Int)) →
    ∃ t, exec (.ownBoundary temp) s = .next t ∧ t.tb.oscTemp = temp ∧
      (8 ≤ s.retention.drift[i].weight → t.tb.f = s.retention.drift[i].estimate.tdiv 100) ∧
      (∀ lo hi : Fin 16, s.retention.drift[i].weight < 8 → lo < i → i < hi →
        8 ≤ s.retention.drift[lo].weight → 8 ≤ s.retention.drift[hi].weight →
        (∀ j : Fin 16, lo < j → j < hi → s.retention.drift[j].weight < 8) →
        t.tb.f = (s.retention.drift[lo].estimate +
          ((s.retention.drift[hi].estimate - s.retention.drift[lo].estimate) * (temp - (-18000 + 4000 * (lo.val : Int)))).tdiv
            ((-18000 + 4000 * (hi.val : Int)) - (-18000 + 4000 * (lo.val : Int)))).tdiv 100) ∧
      (∀ k : Fin 16, s.retention.drift[i].weight < 8 → 8 ≤ s.retention.drift[k].weight →
        ((k < i ∧ ∀ j : Fin 16, k < j → s.retention.drift[j].weight < 8) ∨
          (i < k ∧ ∀ j : Fin 16, j < k → s.retention.drift[j].weight < 8)) →
        t.tb.f = s.retention.drift[k].estimate.tdiv 100) ∧
      ((∀ j : Fin 16, s.retention.drift[j].weight < 8) → t.tb.f = s.tb.f)) ∧
  (∀ tb : Timebase, (tb.enter .holdover).f = tb.f)

/-- LOCKED: a window's edge with no label pending is its window's edge, is steered to, clears the misses and qualifies; at settle count 60
it teaches the current bin. Nothing else in the station changes. -/
def Obligations.LockedEdgeSteersAndLearns : Prop :=
  ∀ (s : State) (tick : Nat) (temp phase : Int) (others : Bool),
    s.phase = .running → s.setup.referenceEnable = true → s.tb.timeState = .locked → s.tb.pendingLabel = none →
    phase = (if tick < 5000000 then (tick : Int) else (tick : Int) - s.tb.epochLength) → -1000 ≤ phase → phase ≤ 1000 →
    (if tick < 5000000 then s.tb.windowEdge else s.tb.nextWindowEdge) = false →
    ∃ t, exec (.referenceEdge tick temp others) s = .next t ∧
      t.tb = { s.tb with
        tick := max s.tb.tick tick
        phaseTerm := phase.tdiv 4
        f := max (-10000) (min 10000 (s.tb.f + (phase * 100).tdiv 16))
        missCount := 0
        settleCount := if s.tb.settleCount < 60 then s.tb.settleCount + 1 else s.tb.settleCount
        windowEdge := if tick < 5000000 then true else s.tb.windowEdge
        nextWindowEdge := if tick < 5000000 then s.tb.nextWindowEdge else true } ∧
      (s.tb.settleCount < 60 → t.retention = s.retention) ∧
      (60 ≤ s.tb.settleCount →
        ∀ j : Fin 16, t.retention.drift[j] =
          if j = driftBinOf s.tb.oscTemp then
            { estimate := s.retention.drift[j].estimate +
                (t.tb.f * 100 - s.retention.drift[j].estimate).tdiv
                  (if s.retention.drift[j].weight < 64 then (s.retention.drift[j].weight : Int) + 1 else 64)
              weight := if s.retention.drift[j].weight < 255 then s.retention.drift[j].weight + 1 else 255 }
          else s.retention.drift[j]) ∧
      t = (s.setTb t.tb).setRetention { s.retention with drift := t.retention.drift }

/-- LOCKED: a window's edge is steered to and applies the pending label, to the epoch to come when it came before its boundary and else to
the epoch in progress and its open row; RELABELED is raised when no relabel has numbered the same epoch. -/
def Obligations.LabelAppliedAtWindowEdge : Prop :=
  ∀ (s : State) (tick : Nat) (temp phase : Int) (others : Bool) (label : EpochNumber),
    s.phase = .running → s.setup.referenceEnable = true → s.tb.timeState = .locked → s.tb.pendingLabel = some label →
    phase = (if tick < 5000000 then (tick : Int) else (tick : Int) - s.tb.epochLength) → -1000 ≤ phase → phase ≤ 1000 →
    (if tick < 5000000 then s.tb.windowEdge else s.tb.nextWindowEdge) = false →
    ∃ t, exec (.referenceEdge tick temp others) s = .next t ∧ t.tb.pendingLabel = none ∧
      t.tb.phaseTerm = phase.tdiv 4 ∧ t.tb.f = max (-10000) (min 10000 (s.tb.f + (phase * 100).tdiv 16)) ∧
      t.tb.windowEdge = (if tick < 5000000 then true else s.tb.windowEdge) ∧
      t.tb.nextWindowEdge = (if tick < 5000000 then s.tb.nextWindowEdge else true) ∧
      (phase < 0 → t.tb.held = some { number := label, byLabel := true } ∧ t.tb.epochNumber = s.tb.epochNumber ∧
        t.table = s.table ∧ (s.tb.held = none → t.raised = s.raised ||| 2#16 ∧ t.port.notices = s.port.notices ||| 2#16)) ∧
      (0 ≤ phase → t.tb.held = s.tb.held ∧ t.tb.epochNumber = label ∧
        (∀ r, s.table.openRow = some r → t.table.openRow = some { r with epoch := label }) ∧
        (s.tb.numberFrom ≠ .relabel → t.raised = s.raised ||| 2#16 ∧ t.port.notices = s.port.notices ||| 2#16))

/-- REF_ACQUIRE: a window's edge is steered to and clears the misses; the fourth in a row within 100 ticks enters LOCKED with source age 0,
and one farther off starts the count again. An edge outside every window is stepped to and starts the count again; the misses stand (the
model's reading, log 26). A reference edge is ignored without reference enable, when its window has had its edge, and in LOCKED outside
every window. -/
def Obligations.AcquiringEdgesLockAtFour : Prop :=
  ∀ (s : State) (tick : Nat) (temp phase : Int) (others : Bool), s.phase = .running →
    phase = (if tick < 5000000 then (tick : Int) else (tick : Int) - s.tb.epochLength) →
    (s.setup.referenceEnable = true → s.tb.timeState = .refAcquire → -1000 ≤ phase → phase ≤ 1000 →
      (if tick < 5000000 then s.tb.windowEdge else s.tb.nextWindowEdge) = false →
      ∃ t, exec (.referenceEdge tick temp others) s = .next t ∧ t = s.setTb t.tb ∧
        t.tb.phaseTerm = phase.tdiv 4 ∧ t.tb.f = max (-10000) (min 10000 (s.tb.f + (phase * 100).tdiv 16)) ∧
        t.tb.windowEdge = (if tick < 5000000 then true else s.tb.windowEdge) ∧
        t.tb.nextWindowEdge = (if tick < 5000000 then s.tb.nextWindowEdge else true) ∧
        t.tb.missCount = 0 ∧ t.tb.settleCount = 0 ∧ t.tb.epochLength = s.tb.epochLength ∧ t.tb.epochNumber = s.tb.epochNumber ∧
        (phase < -100 ∨ 100 < phase → t.tb.timeState = .refAcquire ∧ t.tb.acquireCount = 0 ∧ t.tb.sourceAge = s.tb.sourceAge) ∧
        (-100 ≤ phase → phase ≤ 100 → s.tb.acquireCount < 3 →
          t.tb.timeState = .refAcquire ∧ t.tb.acquireCount = s.tb.acquireCount + 1 ∧ t.tb.sourceAge = s.tb.sourceAge) ∧
        (-100 ≤ phase → phase ≤ 100 → 3 ≤ s.tb.acquireCount → t.tb.timeState = .locked ∧ t.tb.sourceAge = 0)) ∧
    (s.setup.referenceEnable = true → s.tb.timeState = .refAcquire → phase < -1000 ∨ 1000 < phase →
      ∃ t, exec (.referenceEdge tick temp others) s = .next t ∧ t.tb.timeState = .refAcquire ∧ t.tb.acquireCount = 0 ∧
        t.tb.missCount = s.tb.missCount ∧ t.tb.tick = 0 ∧ t.tb.f = s.tb.f ∧ t.tb.phaseTerm = 0 ∧ t.tb.settleCount = 0 ∧
        t.tb.windowEdge = true ∧ t.tb.nextWindowEdge = false ∧ t.tb.epochLength = 10000000 + (s.tb.f + s.tb.carry).tdiv 100 ∧
        t.tb.epochsSinceStart = min (s.tb.epochsSinceStart + 1) 0xFFFFFFFF ∧
        t.raised.getLsbD 0 = true ∧ t.port.notices.getLsbD 0 = true) ∧
    (s.setup.referenceEnable = false ∨
        (-1000 ≤ phase ∧ phase ≤ 1000 ∧ (if tick < 5000000 then s.tb.windowEdge else s.tb.nextWindowEdge) = true) ∨
        (s.tb.timeState = .locked ∧ (phase < -1000 ∨ 1000 < phase)) →
      exec (.referenceEdge tick temp others) s = .next (s.setTb { s.tb with tick := max s.tb.tick tick }))

/-- A reference edge in FREE, FOLLOW_ACQUIRE, FOLLOWING or HOLDOVER: the station steps to it and enters REF_ACQUIRE; it is the edge of the
new boundary's window. The watch that opens has seen the latest rise of the pair when that lies at most 2 ms before the edge, and holds no
mark. WARMING rises with the flush. -/
def Obligations.ReferenceEdgeStepsToRefAcquire : Prop :=
  ∀ (s : State) (tick : Nat) (temp phase : Int) (others : Bool),
    s.phase = .running → s.setup.referenceEnable = true → s.tb.timeState ≠ .refAcquire → s.tb.timeState ≠ .locked →
    phase = (if tick < 5000000 then (tick : Int) else (tick : Int) - s.tb.epochLength) →
    (phase < -1000 ∨ 1000 < phase ∨ (if tick < 5000000 then s.tb.windowEdge else s.tb.nextWindowEdge) = false) →
    ∃ t, exec (.referenceEdge tick temp others) s = .next t ∧
      t.tb.timeState = .refAcquire ∧ t.tb.tick = 0 ∧ t.tb.acquireCount = 0 ∧ t.tb.firstEdgeTaken = true ∧ t.tb.missCount = 0 ∧
      t.tb.settleCount = 0 ∧ t.tb.f = s.tb.f ∧ t.tb.phaseTerm = 0 ∧ t.tb.oscTemp = temp ∧
      t.tb.windowEdge = true ∧ t.tb.nextWindowEdge = false ∧
      t.tb.epochLength = 10000000 + (s.tb.f + s.tb.carry).tdiv 100 ∧
      t.tb.epochsSinceStart = min (s.tb.epochsSinceStart + 1) 0xFFFFFFFF ∧
      t.raised.getLsbD 0 = true ∧ t.port.notices.getLsbD 0 = true ∧
      (s.member.state ≠ .halted →
        t.mark.watch.isOpen = true ∧ t.mark.watch.taken = false ∧ t.mark.nextWatch.taken = false ∧ t.mark.nextWatch.riseSeen = false ∧
        (t.mark.watch.riseSeen = true ↔ ∃ p, s.mark.lastRise = some p ∧ -20000 ≤ p - tick ∧ p - tick < 50000)) ∧
      (∀ i : Channel, s.setup.channels[i].kind ≠ .off → s.warmingHolds = false →
        t.warmingHolds = true ∧ t.raised.getLsbD 6 = true ∧ t.port.notices.getLsbD 6 = true) ∧
      t.setup = s.setup ∧ t.store = s.store ∧ t.retention.drift = s.retention.drift ∧ t.retention.slots = s.retention.slots

/-- A step ends what the line and the channels had in progress: the row that was open is closed with its cut flag; in it the own cell in
transmission is ABORTED, the cell of a slot in RECEIVING is DAMAGED with UNFINISHED, and every other cell stands; nothing is sent, received
or driven on (no reception stands before the new epoch's first slot start, and the unit's own summary OR read keeps the set last stored: the
model's choices, log 35 and log 42); a row opens, and every channel that is not OFF is flushed. Where no row is open none is cut. A
reference edge and a leader pulse in FREE take such a step. -/
def Obligations.StepCutsRowAndFlushes : Prop :=
  (∀ (s t : State) (kind : BoundaryKind) (cause : Option (MarkKind × Int)) (collected : TimeState) (shift : Int) (tick : Nat)
    (temp : Int) (others : Bool) (r : Row),
    s.table.openRow = some r → kind.isStep = true → t = s.stepTo kind cause collected shift tick temp others →
    ∃ fresh closed rest, t.table.rows = fresh :: closed :: rest ∧
      fresh.isOpen = true ∧ fresh.cut = false ∧ fresh.summaryOr = 0 ∧ (∀ k : Station, fresh.cells[k] = Cell.empty) ∧
      closed.isOpen = false ∧ closed.cut = true ∧ closed.epoch = r.epoch ∧ closed.summaryOr = r.summaryOr ∧
      (∀ x, s.line.tx = some x → (∀ y, s.line.rx = some y → ¬(y.state = .receiving ∧ y.slot = x.slot)) →
        closed.cells[x.slot] = { r.cells[x.slot] with state := CellState.aborted }) ∧
      (∀ y, s.line.rx = some y → y.state = .receiving →
        closed.cells[y.slot] = { state := .damaged, damage := some .unfinished, report := none, own := false }) ∧
      (∀ k : Station, (∀ x, s.line.tx = some x → x.slot ≠ k) → (∀ y, s.line.rx = some y → ¬(y.state = .receiving ∧ y.slot = k)) →
        closed.cells[k] = r.cells[k]) ∧
      t.line = { s.line with tx := none, rx := none, summaryDriving := false, summaryDriveEnd := 0, summaryRise := none,
                             summaryStored := false } ∧
      (∀ i : Channel, s.setup.channels[i].kind ≠ .off →
        t.dec[i] = { stage1 := [], stage1Count := 0, stage2 := [], value := none, warming := true }) ∧
      (∀ i : Channel, t.front[i] = { s.front[i] with runSign := RunSign.none, runCount := 0, settle := 0, inRange := 0 })) ∧
  (∀ (s t : State) (kind : BoundaryKind) (cause : Option (MarkKind × Int)) (collected : TimeState) (shift : Int) (tick : Nat)
    (temp : Int) (others : Bool),
    s.table.openRow = none → kind.isStep = true → t = s.stepTo kind cause collected shift tick temp others →
    ∃ fresh, t.table.rows = fresh :: (s.table.rows.take 3).map (fun x => { x with isOpen := false }) ∧ fresh.isOpen = true ∧ fresh.cut = false) ∧
  (∀ (s : State) (tick : Nat) (temp phase : Int) (others : Bool),
    s.phase = .running → s.setup.referenceEnable = true → s.tb.timeState ≠ .refAcquire → s.tb.timeState ≠ .locked →
    phase = (if tick < 5000000 then (tick : Int) else (tick : Int) - s.tb.epochLength) →
    (phase < -1000 ∨ 1000 < phase ∨ (if tick < 5000000 then s.tb.windowEdge else s.tb.nextWindowEdge) = false) →
    ∃ u, u = s.setTb u.tb ∧ exec (.referenceEdge tick temp others) s =
      .next ((u.stepTo .referenceStep none s.tb.timeState tick 0 temp others).latchFrom s)) ∧
  (∀ (s : State) (rise phase : Int) (tick : Nat) (temp : Int),
    s.AtHut → s.mark.pulse = some { rise := rise, classified := false } → s.disciplined = true → s.tb.timeState = .free →
    (tick : Int) - rise ≤ 20000 → s.PhaseOf rise phase →
    ∃ u, u = ((s.setPins { s.pins with markAsserted := false }).setMark { s.mark with pulse := none }).setTb u.tb ∧
      exec (.leaderPulse tick temp) s =
        .next ((u.stepTo .markStep (some (.leader, phase)) .free rise ((tick : Int) - rise).toNat temp false).latchFrom s))

/-- The end of a boundary's reference window: an edge in it, or a time state that follows no reference, leaves the counts; else one miss is
counted, and the third is the loss. Only the timebase changes. -/
def Obligations.ReferenceWindowEndCountsMisses : Prop :=
  ∀ s : State, s.phase = .running → s.tb.tick ≤ 1000 →
    ∃ t, exec .referenceWindowEnd s = .next t ∧ t = s.setTb t.tb ∧
      (s.tb.windowEdge = true ∨ (s.tb.timeState ≠ .refAcquire ∧ s.tb.timeState ≠ .locked) → t.tb = { s.tb with tick := 1000 }) ∧
      (s.tb.windowEdge = false → s.tb.timeState = .refAcquire ∨ s.tb.timeState = .locked →
        t.tb.settleCount = 0 ∧
        (s.tb.timeState = .refAcquire → s.tb.missCount < 2 → t.tb.acquireCount = 0) ∧
        (s.tb.missCount < 2 → t.tb.missCount = s.tb.missCount + 1 ∧ t.tb.timeState = s.tb.timeState) ∧
        (2 ≤ s.tb.missCount → t.tb.missCount = 0 ∧ t.tb.pendingLabel = none ∧ t.tb.f = s.tb.f ∧
          (s.disciplined = false → t.tb.timeState = .holdover) ∧
          (s.disciplined = true →
            (s.tb.timeState = .locked → ∀ p, s.tb.lastMarkPhase = some p → -20000 ≤ p → p ≤ 20000 →
              t.tb.timeState = .following) ∧
            (s.tb.timeState = .refAcquire ∨ s.tb.lastMarkPhase = none ∨
                (∃ p, s.tb.lastMarkPhase = some p ∧ (p < -20000 ∨ 20000 < p)) →
              t.tb.timeState = .followAcquire ∧ t.tb.acquireCount = 0 ∧ t.tb.firstEdgeTaken = false))))

/-! ### Mark unit -/

/-- A rise of the pair begins a pulse and is kept as the latest; a rise from −2 ms up to +5 ms of a boundary is seen by that boundary's watch. -/
def Obligations.MarkRiseBeginsPulse : Prop :=
  ∀ (s : State) (tick : Nat), s.AtHut → s.pins.markAsserted = false →
    ∃ t, exec (.markRise tick) s = .next t ∧ t.pins = { s.pins with markAsserted := true } ∧
      t.mark.pulse = some { rise := tick, classified := false } ∧
      t.mark.watch = { s.mark.watch with riseSeen := s.mark.watch.riseSeen || decide (tick < 50000) } ∧
      t.mark.nextWatch = { s.mark.nextWatch with
        riseSeen := s.mark.nextWatch.riseSeen ||
          (decide (5000000 ≤ tick) && decide (s.tb.epochLength - 20000 ≤ (tick : Int)) &&
            decide ((tick : Int) < s.tb.epochLength + 50000)) } ∧
      t = ((s.setPins t.pins).setTb { s.tb with tick := max s.tb.tick tick }).setMark
        { s.mark with pulse := t.mark.pulse, lastRise := some (tick : Int), watch := t.mark.watch, nextWatch := t.mark.nextWatch }

/-- A pulse taken in the current watch while mark events do not discipline (an UNNUMBERED station, or the leader): the timebase records the
phase and nothing else, and the open row takes the mark. A leader pulse marks its rise, a fallback pulse the instant 5 ms before it. A
pulse taken by the watch of the boundary to come is kept in the early mark record instead of the open row, by any station that it does not
make step. -/
def Obligations.UndisciplinedPulseIsOnlyRecorded : Prop :=
  (∀ (s : State) (rise : Int) (tick : Nat) (temp : Int) (others : Bool) (r : Row),
    s.AtHut → s.mark.pulse = some { rise := rise, classified := false } → s.disciplined = false →
    s.mark.watch.isOpen = true → s.mark.watch.taken = false → s.table.openRow = some r →
    (-20000 ≤ rise → rise < 50000 → (tick : Int) - rise ≤ 20000 →
      ∃ t, exec (.leaderPulse tick temp) s = .next t ∧
        t.tb = { s.tb with tick := max s.tb.tick tick, lastMarkPhase := some rise } ∧
        t.mark = { s.mark with pulse := none, watch := { s.mark.watch with taken := true } } ∧
        t.table.openRow = some { r with markKind := .leader, markPhase := some (max (-32767) (min 32767 rise)) } ∧
        t.retention = s.retention ∧ t.raised = s.raised ∧ t.member = s.member ∧ t.line = s.line) ∧
    (30000 ≤ rise → rise < 100000 →
      ∃ t, exec (.fallbackPulse temp others) s = .next t ∧
        t.tb = { s.tb with tick := max s.tb.tick (rise + 20000).toNat, lastMarkPhase := some (rise - 50000) } ∧
        t.mark = { s.mark with pulse := some { rise := rise, classified := true }, watch := { s.mark.watch with taken := true },
                               fallback := true } ∧
        t.table.openRow = some { r with markKind := .fallback, markPhase := some (max (-32767) (min 32767 (rise - 50000))) } ∧
        t.retention = s.retention ∧ t.raised = s.raised ∧ t.member = s.member ∧ t.line = s.line)) ∧
  (∀ (s : State) (c : Instr) (rise : Int) (kind : MarkKind) (marked phase : Int) (tick : Nat),
    s.AtHut → s.mark.pulse = some { rise := rise, classified := false } → Classifies c rise kind marked tick →
    5000000 ≤ marked → s.PhaseOf marked phase → s.TakesMark marked phase →
    (s.disciplined = false ∨ s.tb.timeState = .refAcquire ∨ s.tb.timeState = .locked ∨ s.tb.timeState = .following ∨
      (s.tb.timeState = .followAcquire ∧ s.tb.firstEdgeTaken = true ∧ phase ≤ 20000) ∨ (s.tb.timeState = .holdover ∧ -20000 < phase ∧ phase < 20000)) →
    ∃ t, exec c s = .next t ∧ t.tb.lastMarkPhase = some phase ∧ t.mark.nextWatch = { s.mark.nextWatch with taken := true } ∧
      t.mark.watch = s.mark.watch ∧ t.table = { s.table with early := some (kind, phase) })

/-- FOLLOWING: a mark taken within ±20,000 ticks is steered to and clears the misses. Behind a leader of rank 0 and within 100 ticks it
qualifies for learning, and at settle count 60 it teaches the current bin; else the settle count clears. A stray pulse, or a mark beyond
20,000 ticks, is a miss, the third of which enters HOLDOVER with f as it stands. Leader pulses and fallback pulses act alike. -/
def Obligations.FollowerSteersToMarksOrMisses : Prop :=
  ∀ (s : State) (c : Instr) (rise : Int) (kind : MarkKind) (marked phase : Int) (tick : Nat),
    s.AtHut → s.mark.pulse = some { rise := rise, classified := false } → Classifies c rise kind marked tick →
    s.disciplined = true → s.tb.timeState = .following → s.PhaseOf marked phase →
    ∃ t, exec c s = .next t ∧ t.member = s.member ∧ t.line = s.line ∧ t.raised = s.raised ∧
      t.tb.epochLength = s.tb.epochLength ∧ t.tb.epochNumber = s.tb.epochNumber ∧ t.tb.sourceAge = s.tb.sourceAge ∧
      (s.TakesMark marked phase → t.tb.lastMarkPhase = some phase ∧
        (marked < 5000000 → t.mark.watch.taken = true ∧ ∀ r, s.table.openRow = some r →
          t.table.openRow = some { r with markKind := kind, markPhase := some (max (-32767) (min 32767 phase)) })) ∧
      (¬s.TakesMark marked phase → t.tb.lastMarkPhase = s.tb.lastMarkPhase ∧ t.table = s.table) ∧
      (s.TakesMark marked phase → phase ≤ 20000 →
        t.tb.timeState = .following ∧ t.tb.phaseTerm = phase.tdiv 4 ∧
        t.tb.f = max (-10000) (min 10000 (s.tb.f + (phase * 100).tdiv 16)) ∧ t.tb.missCount = 0 ∧
        (s.tb.leaderRank = some 0 → -100 < phase → phase < 100 →
          (s.tb.settleCount < 60 → t.tb.settleCount = s.tb.settleCount + 1 ∧ t.retention = s.retention) ∧
          (60 ≤ s.tb.settleCount → t.tb.settleCount = s.tb.settleCount ∧
            t.retention = { s.retention with drift := t.retention.drift } ∧
            ∀ j : Fin 16, t.retention.drift[j] =
              if j = driftBinOf s.tb.oscTemp then
                { estimate := s.retention.drift[j].estimate +
                    (t.tb.f * 100 - s.retention.drift[j].estimate).tdiv
                      (if s.retention.drift[j].weight < 64 then (s.retention.drift[j].weight : Int) + 1 else 64)
                  weight := if s.retention.drift[j].weight < 255 then s.retention.drift[j].weight + 1 else 255 }
              else s.retention.drift[j])) ∧
        (s.tb.leaderRank ≠ some 0 ∨ phase ≤ -100 ∨ 100 ≤ phase → t.tb.settleCount = 0 ∧ t.retention = s.retention)) ∧
      (¬s.TakesMark marked phase ∨ 20000 < phase →
        t.tb.f = s.tb.f ∧ t.tb.phaseTerm = s.tb.phaseTerm ∧ t.tb.settleCount = 0 ∧ t.retention = s.retention ∧
        (s.tb.missCount < 2 → t.tb.missCount = s.tb.missCount + 1 ∧ t.tb.timeState = .following) ∧
        (2 ≤ s.tb.missCount → t.tb.missCount = 0 ∧ t.tb.timeState = .holdover))

/-- The two states that acquire a mark, a stray one included; leader pulses and fallback pulses act alike. FOLLOW_ACQUIRE after its first
edge: a pulse within 20,000 ticks is steered to, a mark taken clears the misses, and the fourth in a row within 500 ticks enters FOLLOWING;
the first edge, and a pulse farther off, is stepped to. HOLDOVER: a pulse less than 20,000 ticks off is steered to in FOLLOWING, and a
farther one is stepped to. -/
def Obligations.AcquiringMarksLeadToFollowing : Prop :=
  ∀ (s : State) (c : Instr) (rise : Int) (kind : MarkKind) (marked phase : Int) (tick : Nat),
    s.AtHut → s.mark.pulse = some { rise := rise, classified := false } → Classifies c rise kind marked tick →
    s.disciplined = true → s.PhaseOf marked phase →
    (s.tb.timeState = .followAcquire → s.tb.firstEdgeTaken = true → -20000 ≤ phase → phase ≤ 20000 →
      ∃ t, exec c s = .next t ∧ t.tb.phaseTerm = phase.tdiv 4 ∧
        t.tb.f = max (-10000) (min 10000 (s.tb.f + (phase * 100).tdiv 16)) ∧ t.tb.settleCount = 0 ∧
        t.tb.sourceAge = s.tb.sourceAge ∧ t.retention = s.retention ∧ t.member = s.member ∧
        (s.TakesMark marked phase → t.tb.lastMarkPhase = some phase ∧ t.tb.missCount = 0 ∧
          (marked < 5000000 → t.mark.watch.taken = true)) ∧
        (¬s.TakesMark marked phase → t.tb.lastMarkPhase = s.tb.lastMarkPhase) ∧
        (phase < -500 ∨ 500 < phase → t.tb.timeState = .followAcquire ∧ t.tb.acquireCount = 0 ∧
          (¬s.TakesMark marked phase → t.tb.missCount = s.tb.missCount)) ∧
        (-500 ≤ phase → phase ≤ 500 → s.tb.acquireCount < 3 →
          t.tb.timeState = .followAcquire ∧ t.tb.acquireCount = s.tb.acquireCount + 1) ∧
        (-500 ≤ phase → phase ≤ 500 → 3 ≤ s.tb.acquireCount → t.tb.timeState = .following ∧ t.tb.missCount = 0)) ∧
    (s.tb.timeState = .followAcquire → s.tb.firstEdgeTaken = false →
      ∃ t, exec c s = .next t ∧ SteppedToMark s t kind marked phase tick) ∧
    (s.tb.timeState = .followAcquire → s.tb.firstEdgeTaken = true → phase < -20000 ∨ 20000 < phase →
      ∃ t, exec c s = .next t ∧ SteppedToMark s t kind marked phase tick ∧ t.tb.acquireCount = 0) ∧
    (s.tb.timeState = .holdover → -20000 < phase → phase < 20000 →
      ∃ t, exec c s = .next t ∧ t.tb.timeState = .following ∧ t.tb.phaseTerm = phase.tdiv 4 ∧
        t.tb.f = max (-10000) (min 10000 (s.tb.f + (phase * 100).tdiv 16)) ∧ t.tb.missCount = 0 ∧
        t.tb.sourceAge = s.tb.sourceAge ∧ t.member = s.member ∧
        (s.TakesMark marked phase → t.tb.lastMarkPhase = some phase ∧ (marked < 5000000 → t.mark.watch.taken = true))) ∧
    (s.tb.timeState = .holdover → phase ≤ -20000 ∨ 20000 ≤ phase →
      ∃ t, exec c s = .next t ∧ SteppedToMark s t kind marked phase tick ∧ t.tb.acquireCount = 0)

/-- FREE: a station that marks discipline steps to a mark, a leader pulse or a fallback pulse, taken or stray, and enters FOLLOW_ACQUIRE,
or HOLDOVER when the cut close makes it leader; the new epoch stands at the ticks passed since the attributed boundary, and the new watch
and the new row hold the mark. -/
def Obligations.FreeStationStepsToMark : Prop :=
  ∀ (s : State) (c : Instr) (rise : Int) (kind : MarkKind) (marked phase : Int) (tick : Nat),
    s.AtHut → s.mark.pulse = some { rise := rise, classified := false } → Classifies c rise kind marked tick →
    s.disciplined = true → s.tb.timeState = .free → s.PhaseOf marked phase →
    ∃ t, exec c s = .next t ∧ SteppedToMark s t kind marked phase tick ∧ t.tb.acquireCount = 0

/-- The watch closes at +12 ms. Without a mark taken the last mark phase becomes not measured, and while marks discipline a miss is counted
in FOLLOW_ACQUIRE and FOLLOWING, the third of which enters HOLDOVER with f as it stands. -/
def Obligations.MarkAbsentCountsMiss : Prop :=
  ∀ s : State, s.AtHut →
    ∃ t, exec .markAbsent s = .next t ∧ t.mark = { s.mark with watch := { s.mark.watch with isOpen := false } } ∧
      t = (s.setTb t.tb).setMark t.mark ∧
      (s.mark.watch.isOpen = false ∨ s.mark.watch.taken = true → t.tb = { s.tb with tick := max s.tb.tick 120000 }) ∧
      (s.mark.watch.isOpen = true → s.mark.watch.taken = false →
        t.tb.lastMarkPhase = none ∧ t.tb.f = s.tb.f ∧
        (s.disciplined = false ∨ (s.tb.timeState ≠ .followAcquire ∧ s.tb.timeState ≠ .following) →
          t.tb.timeState = s.tb.timeState ∧ t.tb.missCount = s.tb.missCount) ∧
        (s.disciplined = true → s.tb.timeState = .followAcquire ∨ s.tb.timeState = .following →
          t.tb.settleCount = 0 ∧
          (s.tb.missCount < 2 → t.tb.missCount = s.tb.missCount + 1 ∧ t.tb.timeState = s.tb.timeState) ∧
          (s.tb.missCount < 2 → s.tb.timeState = .followAcquire → t.tb.acquireCount = 0) ∧
          (2 ≤ s.tb.missCount → t.tb.missCount = 0 ∧ t.tb.timeState = .holdover)))

/-- A MEMBER that is not leader, whose watch has seen no rise and whose pair is released, drives a fallback mark at +5 ms; the ends of the
own marks release the own drive; the release of the pair ends the pulse. -/
def Obligations.OwnMarksAreDrivenAndEnd : Prop :=
  ∀ s : State, s.AtHut →
    (s.tb.tick ≤ 50000 → s.member.state = .member → s.leading = false → s.mark.watch.riseSeen = false →
      s.pins.markAsserted = false →
      exec .fallbackMark s =
        .next ((s.setTb { s.tb with tick := 50000 }).setMark { s.mark with drive := .fallback, fallback := true })) ∧
    (s.member.state ≠ .member ∨ s.leading = true ∨ s.mark.watch.riseSeen = true ∨ s.pins.markAsserted = true →
      exec .fallbackMark s = .next (s.setTb { s.tb with tick := max s.tb.tick 50000 })) ∧
    (s.mark.drive = .fallback →
      exec .fallbackMarkEnd s =
        .next ((s.setTb { s.tb with tick := max s.tb.tick 80000 }).setMark { s.mark with drive := .released })) ∧
    (s.mark.drive = .leader →
      exec .leaderMarkEnd s =
        .next ((s.setTb { s.tb with tick := max s.tb.tick 10000 }).setMark { s.mark with drive := .released })) ∧
    exec .markPairRelease s =
      .next ((s.setPins { s.pins with markAsserted := false }).setMark { s.mark with pulse := none })

/-- At an own boundary the next leader becomes the current one. A MEMBER elected for the epoch drives a leader mark when the pair is
released, and stands down with CONTENTION when it is asserted; any other station's led flag is false. At a step the own drive is released,
the leader is the one that the cut close elects (with no row open the leader held before), and the pair is tested as the other stations
leave it when the step is taken (the model's reading, log 30; the order of the step's parts is log 8). That the next leader is none after a
step is the model's choice (log 33), since R40 does not say what it holds then. -/
def Obligations.LeaderMarksOrStandsDown : Prop :=
  (∀ (s : State) (temp : Int), s.AtHut →
    ∃ t, exec (.ownBoundary temp) s = .next t ∧ t.mark.currentLeader = s.mark.nextLeader ∧ t.mark.fallback = false ∧
      (s.member.state = .member → s.member.number ≠ none → s.mark.nextLeader = s.member.number → s.pins.markAsserted = false →
        t.mark.led = true ∧ t.mark.drive = .leader ∧ t.mark.contention = false) ∧
      (s.member.state = .member → s.member.number ≠ none → s.mark.nextLeader = s.member.number → s.pins.markAsserted = true →
        t.mark.led = false ∧ t.mark.drive = s.mark.drive ∧ t.mark.contention = true ∧ t.raised.getLsbD 2 = true ∧
        t.port.notices.getLsbD 2 = true) ∧
      (s.member.state ≠ .member ∨ s.mark.nextLeader ≠ s.member.number →
        t.mark.led = false ∧ t.mark.drive = s.mark.drive ∧ t.mark.contention = false)) ∧
  (∀ (s t : State) (kind : BoundaryKind) (cause : Option (MarkKind × Int)) (collected : TimeState) (shift : Int) (tick : Nat)
    (temp : Int) (others asserted : Bool),
    s.member.state ≠ .halted → kind.isStep = true → t = s.stepTo kind cause collected shift tick temp others →
    asserted = (if s.mark.drive = .released then s.pins.markAsserted else others) →
    t.pins = { s.pins with markAsserted := asserted } ∧ t.mark.nextLeader = none ∧
    (s.table.openRow = none → t.mark.currentLeader = s.mark.nextLeader) ∧
    (s.table.openRow ≠ none → ∃ fresh closed rest, t.table.rows = fresh :: closed :: rest ∧ closed.cut = true ∧
      fresh.leader = closed.elect ∧ t.mark.currentLeader = closed.elect) ∧
    (t.mark.fallback = true ↔ ∃ phase, cause = some (.fallback, phase)) ∧
    (t.member.state = .member → t.member.number ≠ none → t.mark.currentLeader = t.member.number → asserted = false →
      t.mark.led = true ∧ t.mark.drive = .leader ∧ t.mark.contention = false) ∧
    (t.member.state = .member → t.member.number ≠ none → t.mark.currentLeader = t.member.number → asserted = true →
      t.mark.led = false ∧ t.mark.drive = .released ∧ t.mark.contention = true ∧ t.raised.getLsbD 2 = true ∧
      t.port.notices.getLsbD 2 = true) ∧
    (t.member.state ≠ .member ∨ t.mark.currentLeader ≠ t.member.number →
      t.mark.led = false ∧ t.mark.drive = .released ∧ t.mark.contention = false))

/-- The election: no candidate elects none; DOUBT or no incumbent elects the best candidate; JOINING keeps the incumbent; and else the
incumbent keeps the lead unless a better rank stands. A row opens with summary OR 0. -/
def Obligations.ElectionFollowsItsTable : Prop :=
  ∀ r : Row,
    let candidate := fun (k : Station) (x : Report) => r.cells[k].state = .received ∧ r.cells[k].report = some x
    let best := fun k : Station => ∃ x, candidate k x ∧
      ∀ j y, candidate j y → x.rank ≤ y.rank ∧ (y.rank = x.rank → k ≤ j)
    let incumbent := fun k : Station => (∃ x, candidate k x ∧ x.led = true) ∧ ∀ j y, candidate j y → y.led = true → j = k
    (∀ epoch leader record, (Row.opened epoch leader record).summaryOr = 0) ∧
    ((∀ k x, ¬candidate k x) → r.elect = none) ∧
    (∀ k, best k → r.summaryOr.getLsbD 2 = true ∨ (∀ j, ¬incumbent j) → r.elect = some k) ∧
    (∀ k, incumbent k → r.summaryOr.getLsbD 2 = false → r.summaryOr.getLsbD 3 = true → r.elect = some k) ∧
    (∀ k x, incumbent k → candidate k x → r.summaryOr.getLsbD 2 = false → r.summaryOr.getLsbD 3 = false →
      (∀ j y, candidate j y → x.rank ≤ y.rank) → r.elect = some k) ∧
    (∀ k x b, incumbent k → candidate k x → r.summaryOr.getLsbD 2 = false → r.summaryOr.getLsbD 3 = false → best b →
      (∃ j y, candidate j y ∧ y.rank < x.rank) → r.elect = some b)

/-! ### Row close -/

/-- ROW_CLOSE closes the open row with its cut flag clear, and the mark unit acts on it: the leaderless count, the disagreement flag and
the leader of the next epoch. The current leader stays. In HALTED the close changes the row, the tick count and nothing else. -/
def Obligations.RowCloseClosesRowAndElects : Prop :=
  (∀ (s : State) (r : Row), s.AtHut → s.table.openRow = some r →
      ∃ t, exec .rowClose s = .next t ∧
        t.table.rows = { r with isOpen := false, cut := false } :: s.table.rows.tail ∧ t.table.early = s.table.early ∧
        t.mark = { s.mark with
          leaderless := if r.markKind = .leader then 0 else if s.mark.leaderless < 65535 then s.mark.leaderless + 1 else 65535
          disagreement := t.mark.disagreement
          nextLeader := r.elect } ∧
        (t.mark.disagreement = true ↔
          ¬∀ k : Station, (∃ x, r.cells[k].state = .received ∧ r.cells[k].report = some x ∧ x.led = true) ↔
            s.mark.currentLeader = some k) ∧
        t.line = s.line ∧ t.front = s.front ∧ t.dec = s.dec ∧ t.corr = s.corr ∧ t.setup = s.setup ∧ t.store = s.store ∧
        t.pins = s.pins ∧ t.events = { s.events with edgeSeen := false }) ∧
  (∀ (s : State) (r : Row), s.phase = .running → s.member.state = .halted → s.table.openRow = some r →
    exec .rowClose s =
      .next ((s.setTb { s.tb with tick := max s.tb.tick 9000000 }).setTable
        { s.table with rows := { r with isOpen := false, cut := false } :: s.table.rows.tail }))

/-- At ROW_CLOSE the source age changes by the time state, the leader's reported rank is taken from the leader's report, and a leader's
report with another epoch number gives the next epoch its number + 1. The leader's report is that of the row leader's RECEIVED cell, and
there is none when the row leader is the own station or its cell is not RECEIVED. FOLLOWING and FOLLOW_ACQUIRE become HOLDOVER when the
close makes the station leader. -/
def Obligations.RowCloseMovesTimebase : Prop :=
  ∀ (s : State) (r : Row) (leaders : Option Report), s.AtHut → s.table.openRow = some r →
    leaders = (match r.leader with
      | some k => if s.member.number ≠ some k ∧ r.cells[k].state = .received then r.cells[k].report else none
      | none => none) →
    ∃ t, exec .rowClose s = .next t ∧
      t.tb.leaderRank = leaders.map Report.rank ∧
      t.tb.sourceAge =
        (match s.tb.timeState, leaders with
          | .locked, _ => 0
          | .following, some x => x.sourceAge
          | .free, _ => 0xFFFFFFFF
          | _, _ => if s.tb.sourceAge < 0xFFFFFFFF then s.tb.sourceAge + 1 else 0xFFFFFFFF) ∧
      t.tb.timeState =
        (if t.member.state = .member ∧ t.member.number ≠ none ∧ r.elect = t.member.number ∧
            (s.tb.timeState = .following ∨ s.tb.timeState = .followAcquire) then .holdover
          else s.tb.timeState) ∧
      (∀ x, leaders = some x → x.epoch ≠ r.epoch →
        (∀ h, s.tb.held = some h → h.byLabel = false) →
        t.tb.held = some { number := x.epoch + 1, byLabel := false } ∧ t.raised.getLsbD 1 = true ∧
          t.port.notices.getLsbD 1 = true) ∧
      ((∀ x, leaders = some x → x.epoch = r.epoch) → t.tb.held = s.tb.held) ∧
      t.tb.f = s.tb.f ∧ t.tb.epochNumber = s.tb.epochNumber ∧ t.tb.epochLength = s.tb.epochLength ∧
      t.tb.phaseTerm = s.tb.phaseTerm

/-- At ROW_CLOSE a JOINING station counts marked and silent closes and a CONFLICT station quiet ones; every other state stays. The number
stays. -/
def Obligations.RowCloseMovesMembership : Prop :=
  ∀ (s : State) (r : Row), s.AtHut → s.table.openRow = some r →
    ∃ t, exec .rowClose s = .next t ∧ t.member.number = s.member.number ∧
      (s.member.state = .joining → r.markKind ≠ .none →
        t.member.silentCloses = 0 ∧
        (1 ≤ s.member.markedCloses → t.member.state = .member ∧ t.member.markedCloses = 0) ∧
        (s.member.markedCloses = 0 → t.member.state = .joining ∧ t.member.markedCloses = 1)) ∧
      (s.member.state = .joining → r.markKind = .none →
        t.member.markedCloses = 0 ∧
        (2 ≤ s.member.silentCloses → t.member.state = .member ∧ t.member.silentCloses = 0) ∧
        (s.member.silentCloses < 2 → t.member.state = .joining ∧ t.member.silentCloses = s.member.silentCloses + 1)) ∧
      (∀ k, s.member.state = .conflict → s.member.number = some k →
        (r.cells[k].state = .empty → 7 ≤ s.member.conflictQuiet → t.member.state = .joining ∧ t.member.conflictQuiet = 0) ∧
        (r.cells[k].state = .empty → s.member.conflictQuiet < 7 →
          t.member.state = .conflict ∧ t.member.conflictQuiet = s.member.conflictQuiet + 1) ∧
        (r.cells[k].state ≠ .empty → t.member.state = .conflict ∧ t.member.conflictQuiet = 0)) ∧
      (s.member.state ≠ .joining → s.member.state ≠ .conflict → t.member.state = s.member.state)

/-- At ROW_CLOSE a RECEIVED cell sets its roster entry from the report, its temperature records included; an entry whose cell is not
RECEIVED changes by its presence and keeps its other fields. -/
def Obligations.RosterFollowsCells : Prop :=
  ∀ (s : State) (r : Row), s.AtHut → s.table.openRow = some r →
    ∃ t, exec .rowClose s = .next t ∧
      (∀ (k : Station) (x : Report), r.cells[k].state = .received → r.cells[k].report = some x →
        t.member.roster[k] =
          { presence := .present, missed := 0, lastEpoch := some x.epoch, lastRank := some x.rank, lastAge := some x.sourceAge,
            lastState := some x.timeState
            temps := (x.entries.filter fun e => decide (e.kind = .temp ∨ e.kind = .fieldF)).map fun e =>
              { index := e.index, kind := e.kind, quality := e.quality, value := e.value, valueEpoch := x.epoch - 2 } }) ∧
      (∀ k : Station, r.cells[k].state ≠ .received →
        t.member.roster[k] = { s.member.roster[k] with
          presence := t.member.roster[k].presence, missed := t.member.roster[k].missed } ∧
        (s.member.roster[k].presence = .unseen → t.member.roster[k].presence = .unseen ∧ t.member.roster[k].missed = 0) ∧
        (s.member.roster[k].presence = .present → t.member.roster[k].presence = .missed ∧ t.member.roster[k].missed = 1) ∧
        (s.member.roster[k].presence = .missed → s.member.roster[k].missed < 2 →
          t.member.roster[k].presence = .missed ∧ t.member.roster[k].missed = s.member.roster[k].missed + 1) ∧
        (s.member.roster[k].presence = .missed → s.member.roster[k].missed = 2 →
          t.member.roster[k].presence = .gone ∧ t.member.roster[k].missed = 3) ∧
        (s.member.roster[k].presence = .gone → t.member.roster[k].presence = .gone ∧ t.member.roster[k].missed = 3))

/-- At ROW_CLOSE a MEMBER consumes one sequence number for one entry formed from the row, which joins the queue unless it holds four; at
0xFFFFFFFF none is formed and ARCHIVE_FULL is raised. A station in another state forms none. -/
def Obligations.RowCloseFormsArchiveEntry : Prop :=
  ∀ (s : State) (r : Row), s.AtHut → s.table.openRow = some r →
    ∃ t, exec .rowClose s = .next t ∧ t.archive.writing = s.archive.writing ∧
      (s.member.state ≠ .member → t.archive = s.archive ∧ t.retention = s.retention) ∧
      (∀ k, s.member.state = .member → s.member.number = some k → s.retention.nextSeq < 0xFFFFFFFF →
        t.retention = { s.retention with nextSeq := s.retention.nextSeq + 1 } ∧
        (4 ≤ s.archive.queue.length → t.archive.queue = s.archive.queue) ∧
        (s.archive.queue.length < 4 → ∃ e, t.archive.queue = s.archive.queue ++ [e] ∧ e.seq = s.retention.nextSeq ∧
          e.epoch = r.epoch ∧ e.leader = r.leader ∧ e.markKind = r.markKind ∧ e.summaryOr = r.summaryOr ∧ e.cut = false ∧
          e.ownCell = r.cells[k].state ∧ e.marker = s.events.edgeSeen ∧
          (∀ j : Station, e.presence.getLsbD j.val = decide (r.cells[j].state = .received)) ∧
          (∀ x, r.cells[k].own = true → r.cells[k].state ≠ .empty → r.cells[k].report = some x → e.body = encodeReport x) ∧
          (r.cells[k].state = .empty → e.body = []))) ∧
      (s.member.state = .member → 0xFFFFFFFF ≤ s.retention.nextSeq →
        t.archive = s.archive ∧ t.retention = s.retention ∧ t.raised.getLsbD 11 = true ∧ t.port.notices.getLsbD 11 = true)

/-! ### Data line unit -/

/-- At the own slot start a MEMBER builds its report from what the blocks hold, places it in the own cell, which reads EMPTY, begins to send
it and empties the raised record; the own slot is then in progress, with nothing to receive (DONE: the model's choice, log 35). Any other
station does nothing there. Every field of the report is given, and for each channel that is not OFF one entry, in ascending index, with its
quality by the order of precedence. From 0.5 ms after the slot start the station drives the DATA pair by the cells of the report's frame,
ten for each byte: a start cell asserted, the eight bits from the least significant, and a stop cell released; before the frame and after
its last cell it drives nothing, nor without a transmission or a summary window. -/
def Obligations.OwnSlotStartSendsReport : Prop :=
  (∀ s : State, s.AtHut →
    (∀ k, s.member.state = .member → s.member.number = some k →
      ∃ x : Report, exec .ownSlotStart s =
          .next ((((s.setTb { s.tb with tick := max s.tb.tick (200000 + 1000000 * k.val) }).setTable
            (s.table.mapCell k fun _ => { state := .empty, damage := none, report := some x, own := true })).setLine
              { s.line with
                tx := some { report := x, slot := k }
                rx := some { slot := k, state := .done, rise := 0, bytes := [], cells := [], expected := none } }).setRaised 0) ∧
        x.station = k.val + 1 ∧ x.epoch = s.tb.epochNumber ∧ x.timeState = s.tb.timeState ∧ x.led = s.mark.led ∧
        x.sourceAge = s.tb.sourceAge ∧ x.conditions = s.currentConditions ∧ x.deltaF = s.check.last ∧
        x.markPhase = ((s.table.openRow.bind Row.markPhase).getD (-32768)) ∧
        x.rank = (match s.tb.timeState with
          | .locked => 0
          | .following | .holdover => if s.tb.sourceAge < s.setup.holdoverHours * 3600 then 1 else 2
          | .free | .refAcquire | .followAcquire => 2) ∧
        (∀ i : Channel, s.setup.channels[i].kind ≠ .off → ∃ e ∈ x.entries, e.index = i) ∧
        (x.entries.map fun e => e.index.val).Pairwise (· < ·) ∧
        (∀ e ∈ x.entries, e.kind = s.setup.channels[e.index].kind ∧ e.kind ≠ .off ∧
          e.quality =
            (match s.corr[e.index].corrected with
              | none => .warming
              | some v =>
                if v.mark = .fault then .fault
                else if v.mark = .clipped then .clipped
                else if v.mark = .held then .held
                else if v.corr = .staleTemp then .staleTemp
                else if v.corr = .uncorrected then .uncorrected
                else .good) ∧
          e.value =
            (match s.corr[e.index].corrected with
              | none => none
              | some v => if v.mark = .fault then none else some v.value) ∧
          e.vec =
            (if e.kind = .fieldX ∨ e.kind = .fieldY ∨ e.kind = .fieldZ then
              some { bias := s.front[e.index].bias, bin := s.corr[e.index].bin, gliding := s.corr[e.index].glide.isSome }
            else none))) ∧
    (s.member.state ≠ .member → exec .ownSlotStart s = .next s)) ∧
  (∀ (s : State) (x : Transmission) (start cell : Nat), s.line.tx = some x → s.line.summaryDriving = false →
    start = 205000 + 1000000 * x.slot.val →
    (s.tb.tick < start → s.dataDrive = false) ∧
    (start + cell * 3125 / 3 ≤ s.tb.tick → s.tb.tick < start + (cell + 1) * 3125 / 3 →
      s.txCell x = cell ∧
      (10 * (encodeFrame x.report).length ≤ cell → s.dataDrive = false) ∧
      ∀ b, (encodeFrame x.report)[cell / 10]? = some b →
        s.dataDrive = if cell % 10 = 0 then true else if cell % 10 ≤ 8 then b.getLsbD (cell % 10 - 1) else false)) ∧
  (∀ s : State, s.line.tx = none → s.line.summaryDriving = false → s.dataDrive = false)

/-- The reception of a slot: its start begins HUNTING unless the station sends in it (then DONE: the model's choice, log 35), a first rise
before the 5 ms limit begins RECEIVING with its start cell read (a rise within a transient's start cell like any other: the model's choice,
log 41; a rise at the very tick of the slot start too: the model's choice, log 43), and the limit passes to DONE, a candidate whose start cell is still to be read included (the model's choice: log 34). In RECEIVING
the cells are read one by one: a start cell that reads released, a stop cell that reads asserted and another lead byte than 0xD5 make the
cell DAMAGED with FRAMING, a length byte out of range (judged with its stop cell read: log 19) with LENGTH; a data cell joins the byte in
progress, and a length byte within range fixes the expected cell count. Cells that come in two commands are read as in one. The slot end
makes an unfinished frame's cell DAMAGED with UNFINISHED; it comes 90 ms after the start of the slot in progress, the own slot included. -/
def Obligations.SlotReceptionMoves : Prop :=
  (∀ (s : State) (k : Station), s.AtHut → ¬(s.member.state = .member ∧ s.member.number = some k) →
    exec (.slotStart k) s =
      .next ((s.setTb { s.tb with tick := max s.tb.tick (200000 + 1000000 * k.val) }).setLine
        { s.line with rx := some { slot := k, state := .hunting, rise := 0, bytes := [], cells := [], expected := none } })) ∧
  (∀ (s : State) (k : Station), s.AtHut → s.member.state = .member → s.member.number = some k →
    exec (.slotStart k) s =
      .next ((s.setTb { s.tb with tick := max s.tb.tick (200000 + 1000000 * k.val) }).setLine
        { s.line with rx := some { slot := k, state := .done, rise := 0, bytes := [], cells := [], expected := none } })) ∧
  (∀ (s : State) (x : Reception) (tick : Nat), s.AtHut → s.line.rx = some x → x.state = .hunting →
    200000 + 1000000 * x.slot.val ≤ tick → tick < 250000 + 1000000 * x.slot.val →
    exec (.frameFirstRise tick true) s =
      .next ((s.setTb { s.tb with tick := max s.tb.tick (tick + 520) }).setLine
        { s.line with rx := some { x with state := .receiving, rise := tick, cells := [true] } }) ∧
    exec (.frameFirstRise tick false) s = .next (s.setTb { s.tb with tick := max s.tb.tick (tick + 520) })) ∧
  (∀ (s : State) (x : Reception), s.AtHut → s.line.rx = some x → x.state = .hunting →
    exec .huntTimeout s =
      .next ((s.setTb { s.tb with tick := max s.tb.tick (250000 + 1000000 * x.slot.val) }).setLine
        { s.line with rx := some { x with state := .done } })) ∧
  (∀ (s : State) (x : Reception) (level : Bool) (rest : List Bool) (b : Byte), s.AtHut → s.line.rx = some x → x.state = .receiving →
    let reached := fun cell : Nat => s.setTb { s.tb with tick := max s.tb.tick (x.rise + (2 * cell + 1) * 3125 / 6) }
    let damaged := fun (y : Reception) (kind : DamageKind) =>
      ((reached (10 * y.bytes.length + y.cells.length - 1)).setTable
        (s.table.mapCell x.slot fun _ => { state := .damaged, damage := some kind, report := none, own := false })).setLine
          { s.line with rx := some { y with state := .done } }
    let byteRead := { x with bytes := x.bytes ++ [b], cells := [] }
    (x.cells = [] → exec (.framingFault (false :: rest)) s = .next (damaged { x with cells := [false] } .framing)) ∧
    (x.cells.length = 9 →
      exec (.framingFault (true :: rest)) s = .next (damaged { x with cells := x.cells ++ [true] } .framing)) ∧
    (x.cells.length = 9 → b = byteOfCells x.cells.tail → x.bytes = [] → b ≠ 0xD5#8 →
      exec (.framingFault (false :: rest)) s = .next (damaged byteRead .framing)) ∧
    (x.cells.length = 9 → b = byteOfCells x.cells.tail → x.bytes.length = 1 → b.toNat < 15 ∨ 48 < b.toNat →
      exec (.framingFault (false :: rest)) s = .next (damaged byteRead .length)) ∧
    (x.cells = [] → exec (.frameReceived [true]) s =
      .next ((reached (10 * x.bytes.length)).setLine { s.line with rx := some { x with cells := [true] } })) ∧
    (1 ≤ x.cells.length → x.cells.length ≤ 8 → exec (.frameReceived [level]) s =
      .next ((reached (10 * x.bytes.length + x.cells.length)).setLine { s.line with rx := some { x with cells := x.cells ++ [level] } })) ∧
    (x.cells.length = 9 → b = byteOfCells x.cells.tail → x.bytes.length = 1 → 15 ≤ b.toNat → b.toNat ≤ 48 →
      exec (.frameReceived [false]) s =
        .next ((reached (10 * x.bytes.length + 9)).setLine
          { s.line with rx := some { byteRead with expected := some ((b.toNat + 4) * 10) } }))) ∧
  (∀ (s t : State) (y : Reception) (a b : List Bool), s.AtHut → s.CountsSound → b ≠ [] → exec (.frameReceived a) s = .next t →
    t.line.rx = some y → y.state = .receiving →
    exec (.frameReceived (a ++ b)) s = exec (.frameReceived b) t) ∧
  (∀ (s : State) (x : Reception), s.AtHut → s.line.rx = some x → x.state = .receiving →
    exec .slotEnd s =
      .next (((s.setTb { s.tb with tick := max s.tb.tick (1100000 + 1000000 * x.slot.val) }).setTable
        (s.table.mapCell x.slot fun _ => { state := .damaged, damage := some .unfinished, report := none, own := false })).setLine
          { s.line with rx := some { x with state := .done } })) ∧
  (∀ (s : State) (x : Reception), s.AtHut → s.line.rx = some x → x.state ≠ .receiving →
    exec .slotEnd s =
      .next ((s.setTb { s.tb with tick := max s.tb.tick (1100000 + 1000000 * x.slot.val) }).setLine
        { s.line with rx := some { x with state := .done } })) ∧
  (∀ (s t : State) (k : Station), s.AtHut → s.member.state = .member → s.member.number = some k → exec .ownSlotStart s = .next t →
    ∃ u, exec .slotEnd t = .next u ∧ u.tb.tick = max s.tb.tick (1100000 + 1000000 * k.val))

/-- A frame read whole, cell by cell from its first rise's grid, makes its slot's cell DAMAGED with the kind of the first check that fails,
in the order CHECK, SLOT, FORMAT, and else RECEIVED with the decoded report. The bytes are those whose cells were read, each start cell,
data bits from the least significant, and stop cell. Only the tick count, the cell and the reception change. A body passes the FORMAT check
exactly when its format version is 1, its time state is one of the six codes, its lead rank is at most 2, its entry count is at most 4, and
after the 15 bytes of the header come as many entries as it counts, of defined kinds and qualities, in strictly ascending channel index, each
as long as its kind and quality say, then the five bytes of the ΔF entry when its flag is present, and nothing else. -/
def Obligations.WholeFrameIsJudged : Prop :=
  (∀ (s : State) (x : Reception) (len : Byte) (body check : List Byte) (levels : List Bool),
    s.AtHut → s.line.rx = some x → x.state = .receiving → x.bytes = [] → x.cells = [true] →
    15 ≤ len.toNat → len.toNat ≤ 48 → body.length = len.toNat → check.length = 2 →
    true :: levels = (0xD5#8 :: len :: (body ++ check)).flatMap (fun b => true :: ((List.range 8).map b.getLsbD ++ [false])) →
    ∃ t c, exec (.frameReceived levels) s = .next t ∧
      (leNat check ≠ (checkWord (len :: body)).toNat → c = { state := .damaged, damage := some .check, report := none, own := false }) ∧
      (leNat check = (checkWord (len :: body)).toNat →
        ((body.getD 0 0).toNat ≠ x.slot.val + 1 →
          c = { state := .damaged, damage := some .slot, report := none, own := false }) ∧
        ((body.getD 0 0).toNat = x.slot.val + 1 →
          (decodeReport body = none → c = { state := .damaged, damage := some .format, report := none, own := false }) ∧
          ∀ y, decodeReport body = some y → c = { state := .received, damage := none, report := some y, own := false })) ∧
      t = ((s.setTb { s.tb with tick := max s.tb.tick (x.rise + (2 * ((len.toNat + 4) * 10 - 1) + 1) * 3125 / 6) }).setTable
        (s.table.mapCell x.slot fun _ => c)).setLine
        { s.line with rx := some { x with state := .done, bytes := 0xD5#8 :: len :: (body ++ check), cells := [],
                                          expected := some ((len.toNat + 4) * 10) } }) ∧
  (∀ (body : List Byte) (at' : Nat → Nat), at' = (fun i => (body.getD i 0).toNat) →
    (decodeReport body ≠ none ↔
      15 ≤ body.length ∧ at' 1 / 16 = 1 ∧ at' 6 % 8 ≤ 5 ∧ at' 6 / 8 % 4 ≤ 2 ∧ at' 1 % 16 ≤ 4 ∧
      ∃ (entries : List (Byte × List Byte)) (delta : List Byte),
        body.drop 15 = entries.flatMap (fun e => e.1 :: e.2) ++ delta ∧ entries.length = at' 1 % 16 ∧
        (∀ e ∈ entries, e.1.toNat / 4 % 8 ≤ 4 ∧ e.1.toNat / 32 ≤ 6 ∧
          e.2.length = (if e.1.toNat / 32 = 5 ∨ e.1.toNat / 32 = 6 then 0 else 4) + (if e.1.toNat / 4 % 8 ≤ 2 then 2 else 0)) ∧
        (entries.map fun e => e.1.toNat % 4).Pairwise (· < ·) ∧
        delta.length = if at' 6 / 64 % 2 = 1 then 5 else 0))

/-- The outcome of the own transmission: complete, at the centre of the frame's last cell, the own cell is RECEIVED and the collision count 0;
at the centre of a mismatched cell, COLLIDED and the count rises; the third collision in a row moves a MEMBER to CONFLICT, which stops leading and driving. -/
def Obligations.OwnTransmissionEnds : Prop :=
  ∀ (s : State) (x : Transmission), s.AtHut → s.line.tx = some x →
    (∃ t, exec .transmissionComplete s = .next t ∧ t.line = { s.line with tx := none, collisions := 0 } ∧
      t.table = s.table.mapCell x.slot (fun c => { c with state := .received }) ∧
      t.tb.tick = max s.tb.tick
        (205000 + 1000000 * x.slot.val + (2 * (10 * (encodeFrame x.report).length - 1) + 1) * 3125 / 6) ∧
      t = ((s.setTb { s.tb with tick := t.tb.tick }).setTable t.table).setLine t.line) ∧
    (∀ cell, cell < 10 * (encodeFrame x.report).length →
      ∃ t, exec (.collided cell) s = .next t ∧
        t.tb = { s.tb with tick := max s.tb.tick (205000 + 1000000 * x.slot.val + (2 * cell + 1) * 3125 / 6) } ∧
        t.table = s.table.mapCell x.slot (fun c => { c with state := .collided }) ∧ t.line.tx = none ∧
        (s.line.collisions < 2 ∨ s.member.state ≠ .member → s.line.collisions < 255 →
          t.line.collisions = s.line.collisions + 1 ∧ t.member = s.member ∧ t.mark = s.mark) ∧
        (2 ≤ s.line.collisions → s.member.state = .member →
          t.line.collisions = 0 ∧ t.line.summaryDriving = false ∧ t.mark = { s.mark with led := false, drive := .released } ∧
          t.member = { s.member with state := .conflict, conflictQuiet := 0 }) ∧
        t.setup = s.setup ∧ t.retention = s.retention ∧ t.archive = s.archive ∧ t.raised = s.raised)

/-- The summary window. At 830 ms a MEMBER or JOINING station fixes and drives its bits ATTENDED, ALERT, DOUBT and JOINING, any other drives
none, and the drive ends 6,250 ticks later; while it lasts the station drives the DATA pair by the cells of its window, the start cell
asserted, the bits, and the stop cell released. Where the pair was released, the own drive is the window's rise. A rise from 828 ms up to
832 ms whose start cell reads asserted, by other stations or by the own drive, fixes the reader's grid (a rise within a transient's start
cell like any other: the model's choice, log 41). The four bits as the other stations and the own drive give them at the centres of cells 1
to 4, with DOUBT added when the stop cell reads asserted, are stored into the open row; a span without a rise whose start cell has been read
stores 0 (that a start cell still to be read does not count is the model's choice, log 34). -/
def Obligations.SummaryWindowIsDrivenAndRead : Prop :=
  (∀ (s : State) (others : Bool), s.AtHut →
      ∃ bits drives, exec (.summaryWindow others) s =
          .next ((s.setTb { s.tb with tick := max s.tb.tick 8300000 }).setLine
            { s.line with summaryDriven := bits
                          summaryDriving := drives
                          summaryDriveEnd := if drives then 8306250 else 0
                          summaryRise := if drives = true ∧ others = false ∧ s.line.summaryStored = false ∧ s.line.summaryRise = none then
                              some 8300000 else s.line.summaryRise }) ∧
        (drives = true ↔ s.member.state = .member ∨ s.member.state = .joining) ∧
        (drives = true →
          bits.getLsbD 0 = s.attendedHolds ∧
          bits.getLsbD 1 = decide (s.port.notices &&& ~~~s.setup.noticeMask ≠ 0#16) ∧
          bits.getLsbD 2 = (s.mark.contention || s.mark.fallback || s.mark.disagreement) ∧
          bits.getLsbD 3 = decide (s.member.state = .joining)) ∧
        (drives = false → bits = 0) ∧
        exec .summaryWindowEnd s =
          .next ((s.setTb { s.tb with tick := max s.tb.tick 8306250 }).setLine { s.line with summaryDriving := false })) ∧
  (∀ (l : DataLine) (tick cell : Nat),
    (tick < 8300000 ∨ l.summaryDriveEnd ≤ tick → l.ownWindow tick = false) ∧
    (8300000 + cell * 3125 / 3 ≤ tick → tick < 8300000 + (cell + 1) * 3125 / 3 → tick < l.summaryDriveEnd →
      l.ownWindow tick = (decide (cell = 0) || (decide (cell ≤ 4) && l.summaryDriven.getLsbD (cell - 1))))) ∧
  (∀ s : State, s.line.tx = none →
    (s.line.summaryDriving = true → s.tb.tick < s.line.summaryDriveEnd → s.dataDrive = s.line.ownWindow s.tb.tick) ∧
    (s.line.summaryDriving = false → s.dataDrive = false)) ∧
  (∀ (s : State) (tick : Nat) (asserted : Bool), s.AtHut → s.line.summaryStored = false →
    (∀ r, s.line.summaryRise = some r → tick < r) → 8280000 ≤ tick → tick < 8320000 →
    exec (.summaryWindowRise tick asserted) s =
      .next ((s.setTb { s.tb with tick := max s.tb.tick (tick + 520) }).setLine
        { s.line with summaryRise := if asserted || s.line.ownWindow (tick + 520) then some tick else s.line.summaryRise })) ∧
  (∀ (s : State) (rise : Nat) (bits : SummarySet) (stop : Bool) (r : Row), s.AtHut → s.line.summaryRise = some rise →
    s.table.openRow = some r →
    ∃ t read, exec (.summaryOrRead bits stop) s = .next t ∧
      read.getLsbD 0 = (bits.getLsbD 0 || s.line.ownWindow (rise + 1562)) ∧
      read.getLsbD 1 = (bits.getLsbD 1 || s.line.ownWindow (rise + 2604)) ∧
      read.getLsbD 2 = (bits.getLsbD 2 || s.line.ownWindow (rise + 3645) || stop || s.line.ownWindow (rise + 5729)) ∧
      read.getLsbD 3 = (bits.getLsbD 3 || s.line.ownWindow (rise + 4687)) ∧
      t.table = { s.table with rows := { r with summaryOr := read } :: s.table.rows.tail } ∧
      t.line = { s.line with summaryRise := none, summaryStored := true, summaryOr := read } ∧
      t = ((s.setTb { s.tb with tick := max s.tb.tick (rise + 5729) }).setTable t.table).setLine t.line) ∧
  (∀ (s : State) (r : Row), s.AtHut → s.line.summaryStored = false → s.line.summaryRise = none → s.table.openRow = some r →
    exec .summaryHuntEnd s =
      .next (((s.setTb { s.tb with tick := max s.tb.tick 8320000 }).setTable
        { s.table with rows := { r with summaryOr := 0 } :: s.table.rows.tail }).setLine
          { s.line with summaryRise := none, summaryStored := true, summaryOr := 0 }))

/-- Every report that fits the frame is what a receiver of its slot decodes from its frame, whatever the values of its fields. -/
def Obligations.ReportFrameRoundTrips : Prop :=
  ∀ r : Report, r.Sound →
    decodeReport (encodeReport r) = some r ∧
    (∀ k : Station, r.station = k.val + 1 → judgeFrame k (encodeFrame r) = some (.received r))

/-! ### Chain -/

/-- At 950 ms a station with a number sends its chain word, with the number held at that instant; its end comes ten cells later. A station
without one sends nothing. In each cell of the word in progress CHOUT stands as the cell says: the start cell asserted, the four bits of the
number and of its complement, least significant first, and the stop cell released; outside a word it is released. -/
def Obligations.ChainWordIsSent : Prop :=
  ∀ s : State, s.AtHut →
    (∀ k, s.member.number = some k →
      exec .chainWordSend s =
        .next ((s.setTb { s.tb with tick := max s.tb.tick 9500000 }).setMember
          { s.member with chainTx := some { number := k, start := 9500000 } })) ∧
    (s.member.number = none → exec .chainWordSend s = .next (s.setTb { s.tb with tick := max s.tb.tick 9500000 })) ∧
    (∀ w, s.member.chainTx = some w →
      exec .chainWordEnd s =
        .next ((s.setTb { s.tb with tick := max s.tb.tick (w.start + 10416).toNat }).setMember { s.member with chainTx := none }) ∧
      (∀ cell : Nat, w.start + (cell * 3125 / 3 : Nat) ≤ s.tb.tick → (s.tb.tick : Int) < w.start + ((cell + 1) * 3125 / 3 : Nat) →
        s.choutDrive =
          if cell = 0 then true
          else if cell ≤ 4 then (w.number.val + 1).testBit (cell - 1)
          else if cell ≤ 8 then !(w.number.val + 1).testBit (cell - 5) else false) ∧
      ((s.tb.tick : Int) < w.start → s.choutDrive = false)) ∧
    (s.member.chainTx = none → s.choutDrive = false)

/-- A chained station reads CHIN. In HUNTING a rise of CHIN is a candidate start when it comes after the last word's completion and after
the start (log 18): with its start cell read asserted it begins a word on its grid, and any other candidate was a transient; in READING the
cells carry the word on, over own boundaries too. The station stands at the centre of the last cell read. The tenth cell completes the word,
which counts for the chain-quiet count. A faulty word raises CHAIN_FAULT and breaks the renumber run. A valid one carrying n names n + 1:
the first number of an unnumbered station, or a number adopted at the third word alike; adoption makes the station JOINING, and a MEMBER
that adopts stops leading, sending, with its own cell ABORTED, and driving the summary window, which it goes on reading. That its own rise
of that window, when it stops driving before the rise would have been read, is undone is the model's choice (log 19). A station that is not
chained takes no words. -/
def Obligations.ChainWordNumbersStation : Prop :=
  (∀ (s : State) (rise start : Int) (asserted : Bool) (cells word : List Bool), s.AtHut → s.setup.fixedNumber = none → s.member.head = false →
    (s.member.chainRx = .hunting ∧ s.member.chainAfter < rise ∧ asserted = true ∧ start = rise ∧ word = true :: cells) ∨
      (∃ read, s.member.chainRx = .reading start read ∧ word = read ++ cells) →
    (word.length < 10 →
      exec (.chainWordReceived rise asserted cells) s =
        .next ((s.setTb { s.tb with tick := max s.tb.tick (start + ((2 * (word.length - 1) + 1) * 3125 / 6 : Nat)).toNat }).setMember
          { s.member with chainRx := .reading start word })) ∧
    (∀ (number complement : BitVec 4) (stop : Bool),
      (∀ j < 4, word[1 + j]? = some (number.getLsbD j) ∧ word[5 + j]? = some (complement.getLsbD j)) → word[9]? = some stop →
      (stop = true ∨ complement ≠ ~~~number ∨ number.toNat = 0 ∨ 8 ≤ number.toNat →
        exec (.chainWordReceived rise asserted cells) s =
          .next ((((s.setTb { s.tb with tick := max s.tb.tick (start + 9895).toNat }).setMember
            { s.member with
              quiet := 0, wordSeen := true, chainRx := .hunting, chainAfter := start + 9895, candidate := none, repeatCount := 0 }).setRaised
              (s.raised ||| 0x2000#16)).setPort { s.port with notices := s.port.notices ||| 0x2000#16 })) ∧
      (∀ m : Station, stop = false → complement = ~~~number → m.val = number.toNat → 1 ≤ m.val →
        ∃ t, exec (.chainWordReceived rise asserted cells) s = .next t ∧ t.member.quiet = 0 ∧ t.member.wordSeen = true ∧
          t.member.chainRx = .hunting ∧ t.member.chainAfter = start + 9895 ∧ t.raised = s.raised ∧
          t.tb = { s.tb with tick := max s.tb.tick (start + 9895).toNat } ∧
          (s.member.number = none → t.member.number = some m ∧ t.member.state = .joining ∧ t.member.markedCloses = 0 ∧
            t.member.silentCloses = 0 ∧ t.member.candidate = s.member.candidate ∧
            (s.member.state ≠ .member → t.table = s.table ∧ t.mark = s.mark ∧ t.line = s.line)) ∧
          (s.member.number = some m → t.member.number = some m ∧ t.member.state = s.member.state ∧
            t.member.candidate = none ∧ t.member.repeatCount = 0 ∧ t.table = s.table ∧ t.mark = s.mark ∧ t.line = s.line) ∧
          (∀ own, s.member.number = some own → own ≠ m → s.member.candidate ≠ some m →
            t.member.number = some own ∧ t.member.state = s.member.state ∧ t.member.candidate = some m ∧
            t.member.repeatCount = 1 ∧ t.table = s.table ∧ t.mark = s.mark ∧ t.line = s.line) ∧
          (∀ own, s.member.number = some own → own ≠ m → s.member.candidate = some m → s.member.repeatCount < 2 →
            t.member.number = some own ∧ t.member.state = s.member.state ∧ t.member.candidate = some m ∧
            t.member.repeatCount = s.member.repeatCount + 1 ∧ t.table = s.table ∧ t.mark = s.mark ∧ t.line = s.line) ∧
          (∀ own, s.member.number = some own → own ≠ m → s.member.candidate = some m → 2 ≤ s.member.repeatCount →
            t.member.number = some m ∧ t.member.state = .joining ∧ t.member.markedCloses = 0 ∧ t.member.silentCloses = 0 ∧
            t.member.candidate = none ∧ t.member.repeatCount = 0 ∧
            (s.member.state = .member → t.mark = { s.mark with led := false, drive := .released } ∧
              t.table = (match s.line.tx with
                | some x => s.table.mapCell x.slot fun c => { c with state := .aborted }
                | none => s.table) ∧
              t.line = { s.line with
                tx := none, collisions := 0, summaryDriving := false, summaryDriveEnd := min s.line.summaryDriveEnd t.tb.tick
                summaryRise := if s.line.summaryDriving = true ∧ s.line.summaryRise = some 8300000 ∧ t.tb.tick < 8300520 then none
                  else s.line.summaryRise }) ∧
            (s.member.state ≠ .member → t.table = s.table ∧ t.mark = s.mark ∧ t.line = s.line))))) ∧
  (∀ (s : State) (rise : Int) (cells : List Bool), s.AtHut → s.setup.fixedNumber = none → s.member.head = false →
    s.member.chainRx = .hunting → s.member.chainAfter < rise →
    exec (.chainWordReceived rise false cells) s = .next (s.setTb { s.tb with tick := max s.tb.tick (rise + 520).toNat })) ∧
  (∀ (s : State) (rise : Int) (asserted : Bool) (cells : List Bool), s.member.chainRx = .hunting → rise ≤ s.member.chainAfter → s.AtHut →
    exec (.chainWordReceived rise asserted cells) s = .next s) ∧
  (∀ (s : State) (temp : Int), s.phase = .running →
    ∃ t, exec (.ownBoundary temp) s = .next t ∧ t.member.chainAfter = s.member.chainAfter - s.tb.epochLength ∧
      (s.member.chainRx = .hunting → t.member.chainRx = .hunting) ∧
      ∀ start read, s.member.chainRx = .reading start read → t.member.chainRx = .reading (start - s.tb.epochLength) read) ∧
  (∀ (s : State) (rise : Int) (asserted : Bool) (cells : List Bool), s.AtHut →
    s.setup.fixedNumber ≠ none ∨ s.member.head = true → exec (.chainWordReceived rise asserted cells) s = .next s)

/-! ### Channels and decimation -/

/-- A conversion outside a settle that completes no run of 16: the channel value by kind, its marking, the record kept as the last one with its
raw value (log 32) and handed to stage 1. On a vector channel the run goes on, begins or ends by the sign in which the raw value lies
beyond the threshold, and the in-range count rises, up to 64 where saturation ends, or returns to 0. -/
def Obligations.ConversionGivesChannelValue : Prop :=
  ∀ (s : State) (i : Channel) (k : Fin 64) (raw : BitVec 24) (g : StageSettings),
    s.phase = .running → s.setup.stage = some g →
    (∀ sign : RunSign, s.setup.channels[i].kind.isVector = true → s.front[i].settle = 0 →
      sign = (if (s.setup.channels[i].threshold : Int) < raw.toInt then .positive
        else if raw.toInt < -(s.setup.channels[i].threshold : Int) then .negative else .none) →
      s.front[i].runCount < 15 ∨ sign = .none ∨ s.front[i].runSign ≠ sign →
      ∃ t rec, exec (.conversion i k raw) s = .next t ∧ t.dec[i] = s.dec[i].push g rec ∧
        rec.value = raw.toInt * s.setup.channels[i].weight + s.front[i].bias * s.setup.channels[i].biasUnit ∧
        rec.marks = { fault := false, clipped := decide (8388607 ≤ raw.toInt ∨ raw.toInt ≤ -8388607), held := false } ∧
        t.front[i] = { s.front[i] with
          runSign := sign
          runCount := if sign = .none then 0 else if s.front[i].runSign = sign then s.front[i].runCount + 1 else 1
          inRange := if sign = .none then min (s.front[i].inRange + 1) 64 else 0
          saturated := s.front[i].saturated && !(decide (sign = .none) && decide (63 ≤ s.front[i].inRange))
          lastRaw := some raw.toInt
          last := some rec } ∧
        t.retention = s.retention ∧ t.raised = s.raised ∧
        t.tb = { s.tb with tick := max s.tb.tick (k.val * 156250) } ∧
        ∀ j : Channel, j ≠ i → t.front[j] = s.front[j] ∧ t.dec[j] = s.dec[j]) ∧
    (s.setup.channels[i].kind = .fieldF →
      ∃ t rec, exec (.conversion i k raw) s = .next t ∧ t.front[i] = { s.front[i] with last := some rec, lastRaw := some raw.toInt } ∧
        t.dec[i] = s.dec[i].push g rec ∧ rec.value = raw.toInt * s.setup.channels[i].weight ∧
        rec.marks = { fault := false, clipped := decide (8388607 ≤ raw.toInt ∨ raw.toInt ≤ -8388607), held := false }) ∧
    (s.setup.channels[i].kind = .temp →
      ∃ t rec v, exec (.conversion i k raw) s = .next t ∧ t.front[i] = { s.front[i] with last := some rec, lastRaw := some raw.toInt } ∧
        t.dec[i] = s.dec[i].push g rec ∧
        v = (raw.toInt * s.setup.channels[i].gain).tdiv 65536 + s.setup.channels[i].offset ∧
        rec.value = max (-60000) (min 80000 v) ∧
        rec.marks = { fault := decide (8388607 ≤ raw.toInt ∨ raw.toInt ≤ -8388607 ∨ v < -60000 ∨ 80000 < v), clipped := false,
                      held := false }) ∧
    (s.setup.channels[i].kind = .off →
      exec (.conversion i k raw) s = .next (s.setTb { s.tb with tick := max s.tb.tick (k.val * 156250) }))

/-- The sixteenth conversion of a run beyond the threshold: its record, restored under the old bias step and marked CLIPPED at full scale, is
kept as the last conversion and handed to stage 1; with room the channel rebiases, writes its step to retention memory and raises
REBIAS; without room it enters saturation and keeps its step, and SATURATED rises when it did not hold. A settle conversion is replaced by
the held value, marked HELD, raises HELD and moves nothing but the settle count and the raw value kept (log 32). At work the bias output of
a vector channel drives its step's compensation, from a rebias on the new one; every other output drives zero. -/
def Obligations.RunRebiasesAndSettles : Prop :=
  (∀ (s : State) (i : Channel) (k : Fin 64) (raw : BitVec 24) (up : Bool),
      s.phase = .running → s.setup.channels[i].kind.isVector = true → s.front[i].settle = 0 → s.front[i].runCount = 15 →
      s.front[i].runSign = (if up then .positive else .negative) →
      (if up then (s.setup.channels[i].threshold : Int) < raw.toInt else raw.toInt < -(s.setup.channels[i].threshold : Int)) →
      ∃ t rec, exec (.conversion i k raw) s = .next t ∧ t.front[i].runSign = .none ∧ t.front[i].runCount = 0 ∧
        rec = ({ value := raw.toInt * s.setup.channels[i].weight + s.front[i].bias * s.setup.channels[i].biasUnit
                 marks := { fault := false, clipped := decide (8388607 ≤ raw.toInt ∨ raw.toInt ≤ -8388607), held := false } } : Conversion) ∧
        t.front[i].last = some rec ∧ t.front[i].lastRaw = some raw.toInt ∧ t.front[i].inRange = 0 ∧
        (∀ g, s.setup.stage = some g → t.dec[i] = s.dec[i].push g rec) ∧ t.raised.getLsbD 5 = s.raised.getLsbD 5 ∧
        t.tb = { s.tb with tick := max s.tb.tick (k.val * 156250) } ∧
        (∀ j : Channel, j ≠ i → t.front[j] = s.front[j] ∧ t.dec[j] = s.dec[j]) ∧
        ((if up then s.front[i].bias < 15 else -15 < s.front[i].bias) →
          t.front[i].bias = (if up then s.front[i].bias + 1 else s.front[i].bias - 1) ∧ t.front[i].settle = 4 ∧
          t.front[i].heldValue = rec.value ∧ t.front[i].heldClipped = rec.marks.clipped ∧
          t.front[i].saturated = s.front[i].saturated ∧
          t.retention.biasSlots[i] = some t.front[i].bias ∧ t.retention.slots = s.retention.slots ∧
          t.retention.drift = s.retention.drift ∧ t.raised.getLsbD 3 = true ∧ t.port.notices.getLsbD 3 = true ∧
          t.biasOutput i = (if up then s.front[i].bias + 1 else s.front[i].bias - 1) * s.setup.channels[i].biasUnit) ∧
        (¬(if up then s.front[i].bias < 15 else -15 < s.front[i].bias) →
          t.front[i].bias = s.front[i].bias ∧ t.front[i].settle = 0 ∧ t.front[i].saturated = true ∧
          t.front[i].heldValue = s.front[i].heldValue ∧ t.front[i].heldClipped = s.front[i].heldClipped ∧
          t.retention = s.retention ∧ t.biasOutput i = s.biasOutput i ∧ t.saturatedHolds = true ∧
          (s.saturatedHolds = false → t.raised.getLsbD 4 = true ∧ t.port.notices.getLsbD 4 = true))) ∧
  (∀ (s : State) (i : Channel) (k : Fin 64) (raw : BitVec 24),
      s.phase = .running → s.setup.channels[i].kind.isVector = true → 0 < s.front[i].settle →
      ∃ t rec, exec (.conversion i k raw) s = .next t ∧
        rec = ({ value := s.front[i].heldValue, marks := { fault := false, clipped := s.front[i].heldClipped, held := true } } : Conversion) ∧
        t.front[i] = { s.front[i] with settle := s.front[i].settle - 1, last := some rec, lastRaw := some raw.toInt } ∧
        (∀ g, s.setup.stage = some g → t.dec[i] = s.dec[i].push g rec) ∧
        t.raised = s.raised ||| 0x20#16 ∧ t.port.notices = s.port.notices ||| 0x20#16 ∧ t.retention = s.retention ∧
        ∀ j : Channel, j ≠ i → t.front[j] = s.front[j] ∧ t.dec[j] = s.dec[j]) ∧
  (∀ (s : State) (i : Channel), s.phase = .running →
    (s.setup.channels[i].kind.isVector = true → s.biasOutput i = s.front[i].bias * s.setup.channels[i].biasUnit) ∧
    (s.setup.channels[i].kind.isVector = false → s.biasOutput i = 0))

/-- The filtered level of an input follows its pin against its polarity; a MARKER input that becomes asserted sets the edge-seen flag; the
sampled levels wait for the next boundary. The other input and every other pin stand. -/
def Obligations.FilteredLevelSetsMarker : Prop :=
  ∀ (s : State) (i : Fin 2) (high : Bool), s.AtHut →
    ∃ t, exec (.filteredLevelChange i high) s = .next t ∧ t = (s.setPins t.pins).setEvents t.events ∧
      t.pins.eventHigh[i] = high ∧ t.events.filtered[i] = (if s.setup.inputs[i].assertedLow then !high else high) ∧
      t.pins = { s.pins with eventHigh := t.pins.eventHigh } ∧
      (∀ j : Fin 2, j ≠ i → t.pins.eventHigh[j] = s.pins.eventHigh[j] ∧ t.events.filtered[j] = s.events.filtered[j]) ∧
      t.events.sampled = s.events.sampled ∧
      (t.events.edgeSeen = true ↔ s.events.edgeSeen = true ∨
        (s.setup.inputs[i].function = .marker ∧ s.events.filtered[i] = false ∧ t.events.filtered[i] = true))

/-- Stage 1: a record joins the window of 16, the oldest leaving a full one; every eighth conversion of a full window yields an output that
joins the window of 32. In FILTER mode it is the weighted sum of the 16, in MEAN mode the mean of the 8 newest, divided toward zero; its one
marking is the worst of the records it is taken from, FAULT before CLIPPED before HELD. -/
def Obligations.StageOneYieldsOutputs : Prop :=
  ∀ (d : DecChannel) (g : StageSettings) (r : Conversion), d.stage1.length ≤ 16 → d.stage1Count ≤ 7 → g.table1.length = 16 →
    let window := (if d.stage1.length = 16 then d.stage1.tail else d.stage1) ++ [r]
    let taken := if g.mean then window.drop 8 else window
    (d.push g r).stage1 = window ∧ (d.push g r).value = d.value ∧ (d.push g r).warming = d.warming ∧
    (d.stage1Count < 7 → (d.push g r).stage1Count = d.stage1Count + 1 ∧ (d.push g r).stage2 = d.stage2) ∧
    (d.stage1Count = 7 → (d.push g r).stage1Count = 0 ∧
      (window.length < 16 → (d.push g r).stage2 = d.stage2) ∧
      (window.length = 16 → ∃ x, (d.push g r).stage2 = (if 32 ≤ d.stage2.length then d.stage2.tail else d.stage2) ++ [x] ∧
        (g.mean = false →
          x.value = (((List.range 16).map fun j => g.table1.getD j 0 * (window.map Conversion.value).getD j 0).sum).tdiv 65536) ∧
        (g.mean = true →
          x.value = (((List.range 8).map fun j => (window.map Conversion.value).getD (j + 8) 0).sum).tdiv 8) ∧
        (x.mark = .fault ↔ ∃ c ∈ taken, c.marks.fault = true) ∧
        (x.mark = .clipped ↔ (∀ c ∈ taken, c.marks.fault = false) ∧ ∃ c ∈ taken, c.marks.clipped = true) ∧
        (x.mark = .held ↔ (∀ c ∈ taken, c.marks.fault = false ∧ c.marks.clipped = false) ∧ ∃ c ∈ taken, c.marks.held = true)))

/-- At an own boundary without a flush a channel with 32 stage-1 outputs produces its epoch value, attributed to the epoch two before and
marked with the worst marking of the 32; with fewer it has none. At a boundary with a pipeline restart pending every channel is flushed and
the flag clears. WARMING holds while some channel is warming: it rises at the flush, and a channel's warming ends with its first epoch
value. -/
def Obligations.BoundaryProducesEpochValues : Prop :=
  ∀ (s : State) (temp : Int) (i : Channel) (g : StageSettings), s.phase = .running → s.setup.stage = some g →
    s.setup.channels[i].kind ≠ .off →
    ∃ t, exec (.ownBoundary temp) s = .next t ∧ t.restartPending = false ∧
      (s.restartPending = false → s.dec[i].stage2.length = 32 → g.table2.length = 32 →
        ∃ v, t.dec[i].value = some v ∧ v.attributed = t.tb.epochNumber - 2 ∧
          v.value = (((List.range 32).map fun j =>
            g.table2.getD j 0 * (s.dec[i].stage2.map StageOutput.value).getD j 0).sum).tdiv 65536 ∧
          (v.mark = .fault ↔ ∃ x ∈ s.dec[i].stage2, x.mark = .fault) ∧
          (v.mark = .clipped ↔ (∀ x ∈ s.dec[i].stage2, x.mark ≠ .fault) ∧ ∃ x ∈ s.dec[i].stage2, x.mark = .clipped) ∧
          (v.mark = .held ↔ (∀ x ∈ s.dec[i].stage2, x.mark = .none ∨ x.mark = .held) ∧ ∃ x ∈ s.dec[i].stage2, x.mark = .held) ∧
          t.dec[i].stage2 = s.dec[i].stage2 ∧ t.dec[i].stage1 = s.dec[i].stage1) ∧
      (s.restartPending = false → s.dec[i].stage2.length < 32 → t.dec[i].value = none) ∧
      (s.restartPending = false → t.dec[i].warming = (s.dec[i].warming && decide (s.dec[i].stage2.length < 32))) ∧
      (t.warmingHolds = true ↔ ∃ j : Channel, t.dec[j].warming = true) ∧
      (s.restartPending = true → s.warmingHolds = false → t.raised.getLsbD 6 = true ∧ t.port.notices.getLsbD 6 = true) ∧
      (s.restartPending = true →
        t.dec[i] = { stage1 := [], stage1Count := 0, stage2 := [], value := none, warming := true } ∧
        t.front[i] = { s.front[i] with runSign := .none, runCount := 0, settle := 0, inRange := 0 } ∧
        t.corr[i] = { s.corr[i] with corrected := none })

/-! ### Correction and field check -/

/-- The bin decision and the corrected value of a channel. On a field channel with a source: waiting, the snap, the selection with hysteresis, and the hold;
`t` is the usable temperature, if any. A bin change takes the row's coefficients at once in STEP mode and by a glide of G boundaries from
where they stand in GLIDE mode; a running glide goes on while the bin stays. Without a source nothing moves, and FIELD_F is uncorrected.
The corrected value of a TEMP channel is its epoch value, without a correction marking. A boundary that hands a channel no epoch value makes
its corrected value none and moves nothing else.
The row that contains a temperature is the last whose lower edge does not exceed it, or the first row. At an own boundary every channel
is so treated, with the temperature of its source and the ATTENDED bit of the row that then is the last closed
one. GLIDING holds while a glide runs on some channel, STALE_TEMP while some channel's freeze cause is STALE, and each rises when it begins
to hold. -/
def Obligations.BinDecisionAndCorrection : Prop :=
  (∀ (x : CorrChannel) (c : ChannelSetup) (v : EpochValue) (temp : Option Int) (attended : Bool),
    c.kind.isField = true → c.source ≠ .none → x.Sound c → c.Sound →
    ∃ y, y = x.boundary c (some v) temp attended ∧
      y.corrected.map Corrected.value =
        some (max (-2147483648) (min 2147483647 (((v.value - y.offset) * (100000000 + y.scale)).tdiv 100000000))) ∧
      y.corrected.map Corrected.mark = some v.mark ∧
      (x.snapped = false → temp = none ∨ attended = true →
        y.bin = x.bin ∧ y.snapped = false ∧ y.offset = x.offset ∧ y.scale = x.scale ∧ y.freeze = x.freeze ∧
        y.corrected.map Corrected.corr = some .uncorrected) ∧
      (∀ t, x.snapped = false → temp = some t → attended = false →
        y.bin = rowContaining c.rows t ∧ y.snapped = true ∧ y.freeze = .none ∧ y.glide = none ∧
        y.offset = (c.row y.bin).offset ∧ y.scale = (c.row y.bin).scale ∧ y.corrected.map Corrected.corr = some .none) ∧
      (x.snapped = true → temp = none →
        y.bin = x.bin ∧ y.freeze = .stale ∧ y.corrected.map Corrected.corr = some .staleTemp) ∧
      (∀ t, x.snapped = true → temp = some t → attended = true →
        y.bin = x.bin ∧ y.freeze = .attended ∧ y.corrected.map Corrected.corr = some .staleTemp) ∧
      (∀ t, x.snapped = true → temp = some t → attended = false →
        y.freeze = .none ∧ y.corrected.map Corrected.corr = some .none ∧
        y.bin = (if (∃ above, c.rows[x.bin + 1]? = some above ∧ above.edge + c.hysteresis ≤ t) ∨
            (0 < x.bin ∧ t < (c.row x.bin).edge - c.hysteresis) then rowContaining c.rows t else x.bin)) ∧
      (x.snapped = true → y.bin ≠ x.bin → c.glideLength = none →
        y.glide = none ∧ y.offset = (c.row y.bin).offset ∧ y.scale = (c.row y.bin).scale) ∧
      (∀ n, x.snapped = true → y.bin ≠ x.bin → c.glideLength = some n →
        y.glide = some { startOffset := x.offset, startScale := x.scale, targetOffset := (c.row y.bin).offset,
                         targetScale := (c.row y.bin).scale, counter := 1 } ∧
        y.offset = x.offset + ((c.row y.bin).offset - x.offset).tdiv n ∧
        y.scale = x.scale + ((c.row y.bin).scale - x.scale).tdiv n) ∧
      (x.snapped = true → y.bin = x.bin → x.glide = none → y.glide = none ∧ y.offset = x.offset ∧ y.scale = x.scale) ∧
      (∀ g n, x.snapped = true → y.bin = x.bin → x.glide = some g → c.glideLength = some n →
        y.offset = g.startOffset + ((g.targetOffset - g.startOffset) * (g.counter + 1)).tdiv n ∧
        y.scale = g.startScale + ((g.targetScale - g.startScale) * (g.counter + 1)).tdiv n ∧
        y.glide = if g.counter + 1 < n then some { g with counter := g.counter + 1 } else none)) ∧
  (∀ (x : CorrChannel) (c : ChannelSetup) (v : EpochValue) (temp : Option Int) (attended : Bool),
    c.kind.isField = true → c.source = .none →
    x.boundary c (some v) temp attended =
      { x with corrected := some ⟨max (-2147483648) (min 2147483647
          (if c.kind = .fieldF then v.value else ((v.value - x.offset) * (100000000 + x.scale)).tdiv 100000000)),
        v.mark, .none⟩ }) ∧
  (∀ (x : CorrChannel) (c : ChannelSetup) (v : EpochValue) (temp : Option Int) (attended : Bool), c.kind = .temp →
    x.boundary c (some v) temp attended = { x with corrected := some ⟨max (-2147483648) (min 2147483647 v.value), v.mark, .none⟩ } ∧
    (-60000 ≤ v.value → v.value ≤ 80000 →
      x.boundary c (some v) temp attended = { x with corrected := some ⟨v.value, v.mark, .none⟩ })) ∧
  (∀ (x : CorrChannel) (c : ChannelSetup) (temp : Option Int) (attended : Bool),
    x.boundary c none temp attended = { x with corrected := none }) ∧
  (∀ (rows : List BinRow) (t : Int) (r : Nat), rows ≠ [] → edgesAscend rows = true → r = rowContaining rows t →
    r < rows.length ∧ (∀ row, 0 < r → rows[r]? = some row → row.edge ≤ t) ∧ (∀ row, rows[r + 1]? = some row → t < row.edge)) ∧
  (∀ (s : State) (temp : Int) (i : Channel), s.phase = .running →
    ∃ t usable attended, exec (.ownBoundary temp) s = .next t ∧
      t.corr[i] = s.corr[i].boundary s.setup.channels[i] t.dec[i].value usable attended ∧
      (attended = true ↔ ∃ r rest, s.table.rows = r :: rest ∧ r.summaryOr.getLsbD 0 = true) ∧
      (t.glidingHolds = true ↔ ∃ j : Channel, t.corr[j].glide ≠ none) ∧
      (s.glidingHolds = false → t.glidingHolds = true → t.raised.getLsbD 7 = true ∧ t.port.notices.getLsbD 7 = true) ∧
      (t.staleTempHolds = true ↔ ∃ j : Channel, t.corr[j].freeze = .stale) ∧
      (s.staleTempHolds = false → t.staleTempHolds = true → t.raised.getLsbD 8 = true ∧ t.port.notices.getLsbD 8 = true) ∧
      (∀ j : Channel, s.setup.channels[i].source = .localChannel j →
        (∀ v, usable = some v ↔ ∃ e, t.dec[j].value = some e ∧ e.mark ≠ .fault ∧ e.value = v)) ∧
      (∀ (k : Station) (j : Channel), s.setup.channels[i].source = .peer k j →
        (∀ v, usable = some v ↔
          (s.member.roster[k].presence = .present ∨ s.member.roster[k].presence = .missed) ∧
          ∃ before e after, s.member.roster[k].temps = before ++ e :: after ∧ (∀ y ∈ before, y.index ≠ j) ∧ e.index = j ∧
            e.kind = .temp ∧ e.quality ≠ .fault ∧ e.quality ≠ .warming ∧
            (t.tb.epochNumber - 2 - e.valueEpoch).toNat ≤ s.setup.channels[i].staleLimit ∧ e.value = some v)))

/-- During a glide each applied coefficient lies between its start value and its target value, and at the end of the glide it is the
target. -/
def Obligations.GlideStaysBetweenStartAndTarget : Prop :=
  ∀ (g : Glide) (length : Nat), 1 ≤ g.counter → g.counter ≤ length →
    (min g.startOffset g.targetOffset ≤ g.offsetAt length ∧ g.offsetAt length ≤ max g.startOffset g.targetOffset) ∧
    (min g.startScale g.targetScale ≤ g.scaleAt length ∧ g.scaleAt length ≤ max g.startScale g.targetScale) ∧
    (g.counter = length → g.offsetAt length = g.targetOffset ∧ g.scaleAt length = g.targetScale)

/-- The field check. ΔF is the scalar less the root of the sum of squares rounded to the nearest integer, and an evaluation moves the counts
and FIELD_DRIFT: one out of tolerance can begin it and leaves it while it holds, one in tolerance can end it and leaves it while it does not
hold (M at least 1, as every accepted setup has it); a missing pair moves none of them and clears the last ΔF. A closing row is evaluated
exactly when its summary OR lacks ATTENDED, the own cell is RECEIVED with the own report as built (log 24), the own entry of lowest index of
each of FIELD_X, FIELD_Y and FIELD_Z is GOOD, and the reference gives a GOOD FIELD_F entry of its channel index: of the own report when it
is LOCAL, of the RECEIVED report of the same epoch number of its station when it is PEER. ROW_CLOSE so evaluates the open row. -/
def Obligations.FieldCheckEvaluatesPairs : Prop :=
  (∀ f x y z : Int, -2147483648 ≤ x → x ≤ 2147483647 → -2147483648 ≤ y → y ≤ 2147483647 → -2147483648 ≤ z → z ≤ 2147483647 →
    ∃ b : Int, 0 ≤ b ∧ (b = 0 ∨ (2 * b - 1) * (2 * b - 1) < 4 * (x * x + y * y + z * z)) ∧
      4 * (x * x + y * y + z * z) < (2 * b + 1) * (2 * b + 1) ∧
      deltaF f x y z = max (-2147483648) (min 2147483647 (f - b))) ∧
  (∀ (k : FieldCheck) (c : CheckSetup) (d : DeltaF),
    (c.tolerance < |d.value - c.expected| →
      (k.close c (some d)).outCount = min (k.outCount + 1) 255 ∧ (k.close c (some d)).inCount = 0 ∧
      (k.drift = false → (k.close c (some d)).drift = decide (c.count ≤ min (k.outCount + 1) 255)) ∧
      (1 ≤ c.count → k.drift = true → (k.close c (some d)).drift = true)) ∧
    (|d.value - c.expected| ≤ c.tolerance →
      (k.close c (some d)).inCount = min (k.inCount + 1) 255 ∧ (k.close c (some d)).outCount = 0 ∧
      (k.drift = true → (k.close c (some d)).drift = !decide (c.count ≤ min (k.inCount + 1) 255)) ∧
      (1 ≤ c.count → k.drift = false → (k.close c (some d)).drift = false)) ∧
    (k.close c (some d)).last = some d ∧ k.close c none = { k with last := none }) ∧
  (∀ (r : Row) (own : Option Station) (reference : Source) (d : DeltaF) (goodFirst : List ChannelEntry → (ChannelEntry → Prop) → Int → Prop),
    (goodFirst = fun entries p v => ∃ before e after, entries = before ++ e :: after ∧ (∀ y ∈ before, ¬p y) ∧ p e ∧ e.quality = .good ∧
      e.value = some v) →
    (r.evaluate own reference = some d ↔
      r.summaryOr.getLsbD 0 = false ∧
      ∃ k mine vx vy vz vf, own = some k ∧ r.cells[k].own = true ∧ r.cells[k].state = .received ∧ r.cells[k].report = some mine ∧
        goodFirst mine.entries (fun e => e.kind = .fieldX) vx ∧ goodFirst mine.entries (fun e => e.kind = .fieldY) vy ∧
        goodFirst mine.entries (fun e => e.kind = .fieldZ) vz ∧ d.value = deltaF vf vx vy vz ∧
        ((reference = .localChannel d.channel ∧ d.station = k.val + 1 ∧
            goodFirst mine.entries (fun e => e.index = d.channel ∧ e.kind = .fieldF) vf) ∨
          ∃ peer theirs, reference = .peer peer d.channel ∧ d.station = peer.val + 1 ∧ r.cells[peer].state = .received ∧
            r.cells[peer].report = some theirs ∧ theirs.epoch = mine.epoch ∧
            goodFirst theirs.entries (fun e => e.index = d.channel ∧ e.kind = .fieldF) vf))) ∧
  (∀ (s : State) (r : Row), s.AtHut → s.table.openRow = some r →
    ∃ t, exec .rowClose s = .next t ∧
      t.check = s.check.close s.setup.check (r.evaluate s.member.number s.setup.check.reference) ∧
      (s.check.drift = false → t.check.drift = true → t.raised.getLsbD 10 = true ∧ t.port.notices.getLsbD 10 = true))

/-! ### Archive -/

/-- A write starts in the slot after the slot of newest while there is room; over the oldest entry when that is released, or under
KEEP_NEWEST with ARCHIVE_OVERRUN raised; and under KEEP_OLDEST the entry leaves the queue unwritten with ARCHIVE_FULL raised. At its
completion the entry's own eight words (their layout is log 15) stand in the slot, newest is its number, and the first entry present is
also oldest kept, where the read cursor follows it. -/
def Obligations.ArchiveWritesStartAndComplete : Prop :=
  (∀ (s : State) (e : Entry) (rest : List Entry), s.phase = .running → s.archive.queue = e :: rest → s.archive.writing = none →
      ∃ t, exec .archiveWriteStart s = .next t ∧ t.retention.nextSeq = s.retention.nextSeq ∧ t.retention.newest = s.retention.newest ∧
        t.retention.releasePoint = s.retention.releasePoint ∧
        (s.retention.slots.length < 8192 → t = s.setArchive { s.archive with writing := some s.retention.nextSlot }) ∧
        (∀ x y others, s.retention.slots = x :: y :: others → 8192 ≤ s.retention.slots.length →
          x.seq ≤ s.retention.releasePoint ∨ s.setup.keepNewest = true →
          t.retention.slots = y :: others ∧ t.retention.oldestKept = y.seq ∧ t.port.cursor = max s.port.cursor y.seq ∧
          t.archive.queue = s.archive.queue ∧ t.archive.writing = some t.retention.nextSlot ∧
          t.raised = (if x.seq ≤ s.retention.releasePoint then s.raised else s.raised ||| 0x1000#16)) ∧
        (∀ x others, s.retention.slots = x :: others → 8192 ≤ s.retention.slots.length → s.retention.releasePoint < x.seq →
          s.setup.keepNewest = false →
          t.retention = s.retention ∧ t.archive = { s.archive with queue := rest } ∧ t.raised = s.raised ||| 0x800#16 ∧
          t.port.cursor = s.port.cursor)) ∧
  (∀ (s : State) (e : Entry) (rest : List Entry) (slot : Nat), s.phase = .running → s.archive.queue = e :: rest →
      s.archive.writing = some slot →
      ∃ t, exec .archiveWriteComplete s = .next t ∧
        t.retention = { s.retention with
          slots := s.retention.slots ++ [{ index := slot, seq := e.seq, words := e.words }], newest := e.seq,
          oldestKept := if s.retention.slots = [] then e.seq else s.retention.oldestKept } ∧
        t.archive = { queue := rest, writing := none } ∧
        t.port = { s.port with cursor := if s.retention.slots = [] then max s.port.cursor e.seq else s.port.cursor } ∧
        t = ((s.setRetention t.retention).setArchive t.archive).setPort t.port) ∧
  (∀ e : Entry, e.words.length = 8 ∧ (∀ w ∈ e.words, w.held = w.written) ∧
    e.words.flatMap (fun w => leBytes 8 w.written.toNat) = entryImageBytes e.seq .none e.tail ++ [0, 0, 0])

/-- SEEK and RELEASE with their four argument bytes sampled, least significant byte first, and no port hold: the cursor and the release
point by their cases, and the last result. Nothing else but the transaction changes. -/
def Obligations.SeekAndReleaseActByCases : Prop :=
  ∀ (s : State) (bits args : List Bool) (x : Nat), s.port.hold = .none → 32 ≤ args.length → x = leNat (bytesOfPortBits (args.take 32)) →
    (s.Takes .seek bits args → ∃ t, exec (.seek bits) s = .next t ∧ t = s.setPort t.port ∧
      (x < s.retention.oldestKept → t.port.cursor = s.retention.oldestKept ∧ t.port.lastResult = .badArgument) ∧
      (s.retention.oldestKept ≤ x → x ≤ s.retention.newest + 1 → t.port.cursor = x ∧ t.port.lastResult = .done) ∧
      (s.retention.oldestKept ≤ x → s.retention.newest + 1 < x →
        t.port.cursor = s.retention.newest + 1 ∧ t.port.lastResult = .badArgument) ∧
      t.port.trans = .ignoring ∧ t.port.notices = s.port.notices) ∧
    (s.Takes .release bits args → ∃ t, exec (.release bits) s = .next t ∧
      t = (s.setRetention { s.retention with releasePoint := t.retention.releasePoint }).setPort t.port ∧
      (s.retention.newest < x → t.retention.releasePoint = s.retention.releasePoint ∧ t.port.lastResult = .badArgument) ∧
      (x ≤ s.retention.newest → x ≤ s.retention.releasePoint →
        t.retention.releasePoint = s.retention.releasePoint ∧ t.port.lastResult = .done) ∧
      (x ≤ s.retention.newest → s.retention.releasePoint < x →
        t.retention.releasePoint = x ∧ t.port.lastResult = .done) ∧
      t.port.cursor = s.port.cursor ∧ t.port.trans = .ignoring ∧ t.port.notices = s.port.notices)

/-- READ ENTRIES opens a stream of two lead bytes and entry images. Each image is formed when its first byte is due, with the byte before it
clocked out (log 17), from the entry of lowest sequence number at or above the cursor, from the entry in write, or from none; its bytes after
the read status are those of the slot's words as read, which for words without error are the entry's fields, but that the unassigned bit and
the bytes after the report body, which ends where its length as read says, are 0 whatever was read (the model's reading, log 37). No later write, completion or
removal in the archive changes an image formed. The cursor moves past an entry when the image's last byte has been clocked out, and not
before. Data out sends 0x00 for the lead bytes, then that image, each byte's bit 7 first, and goes on from where the bytes clocked out leave
the stream, with the next image after the last byte. Word errors that the check cannot tell (three bits or more) are left to the free values
and excluded here. -/
def Obligations.EntryImagesFollowCursor : Prop :=
  (∀ s : State, s.phase = .running → s.port.trans = .command → s.port.hold = .none →
    ∃ t, exec .readEntries s = .next t ∧ t = s.setPort t.port ∧ t.port.trans = .response ∧ t.port.image = some [] ∧
      t.port.imageIndex = 0 ∧ t.port.leads = 2 ∧
      t.port.command = some .readEntries ∧ t.port.lastResult = .done ∧ t.port.cursor = s.port.cursor) ∧
  (∀ (s : State) (bytes : Nat) (before : List Byte), s.phase = .running → s.port.command = some .readEntries → s.port.image = some before →
    before.length ≤ s.port.imageIndex → 0 < s.port.leads →
    (bytes < s.port.leads → exec (.entryImage bytes) s = .next (s.setPort { s.port with leads := s.port.leads - bytes })) ∧
    (s.port.leads ≤ bytes → ∃ t first entry, exec (.entryImage bytes) s = .next t ∧ s.ShowsEntry first entry ∧
      (bytes < s.port.leads + 61 → t.port.image = some first ∧ t.port.sending = entry ∧ t.port.imageIndex = bytes - s.port.leads ∧
        t.port.cursor = s.port.cursor) ∧
      (s.port.leads + 61 ≤ bytes → ∃ image, t.port.image = some image ∧ t.ShowsEntry image t.port.sending ∧ t.port.imageIndex = 0 ∧
        t.port.cursor = (match entry with
          | some q => max (q + 1) s.retention.oldestKept
          | none => s.port.cursor)) ∧
      ((∀ x ∈ s.retention.slots, ∀ w ∈ x.words, w.errors ≤ 2) → t.freeReads = s.freeReads) ∧
      (s.pins.selectLow = true → s.port.trans = .response →
        (∀ edge, edge < 8 * s.port.leads → s.dataOut edge = some false) ∧
        ∀ edge, edge < 488 → s.dataOut (8 * s.port.leads + edge) = some ((first.getD (edge / 8) 0).getLsbD (7 - edge % 8))) ∧
      t.port.leads = 0 ∧ t.retention = s.retention ∧ t.archive = s.archive ∧ t.port.lastResult = s.port.lastResult)) ∧
  (∀ (s : State) (bytes : Nat) (image : List Byte), s.phase = .running → s.port.command = some .readEntries → s.port.image = some image →
    (image.length ≤ s.port.imageIndex → bytes ≤ s.port.leads + 61) → (s.port.imageIndex < image.length → s.port.imageIndex + bytes ≤ image.length) →
    ∃ t, exec (.entryImage bytes) s = .next t ∧ ∀ edge, t.dataOut edge = s.dataOut (8 * bytes + edge)) ∧
  (∀ (s : State) (bytes : Nat) (image : List Byte), s.phase = .running → s.port.command = some .readEntries → s.port.image = some image →
    s.port.imageIndex < image.length → s.port.leads = 0 →
    ∃ t, exec (.entryImage bytes) s = .next t ∧ t.retention = s.retention ∧ t.archive = s.archive ∧ t.port.lastResult = s.port.lastResult ∧
      t.port.leads = 0 ∧
      (s.port.imageIndex + bytes < image.length → t = s.setPort { s.port with imageIndex := s.port.imageIndex + bytes }) ∧
      (image.length ≤ s.port.imageIndex + bytes →
        t.port.cursor = (match s.port.sending with
          | some q => max (q + 1) s.retention.oldestKept
          | none => s.port.cursor) ∧
        (∃ next, t.port.image = some next ∧ t.ShowsEntry next t.port.sending) ∧ t.port.imageIndex = 0 ∧
        ((∀ x ∈ s.retention.slots, ∀ w ∈ x.words, w.errors ≤ 2) → t.freeReads = s.freeReads)) ∧
      (s.pins.selectLow = true → s.port.trans = .response → ∀ edge, edge < 8 * (image.length - s.port.imageIndex) →
        s.dataOut edge = some ((image.getD (s.port.imageIndex + edge / 8) 0).getLsbD (7 - edge % 8)))) ∧
  (∀ (s : State) (c : Instr), c = .archiveWriteStart ∨ c = .archiveWriteComplete → s.phase = .running →
    ∃ t, exec c s = .next t ∧
      t.port = { s.port with cursor := t.port.cursor, notices := t.port.notices } ∧
      (∀ image, s.port.image = some image → s.port.imageIndex < image.length → s.port.leads = 0 →
        ∀ edge, edge < 8 * (image.length - s.port.imageIndex) → t.dataOut edge = s.dataOut edge))

/-! ### Readout port -/

/-- A transaction begins at select low, an unknown command byte turns it to IGNORING, and select high ends it, cut short when it was still
in COMMAND after a clock edge or in ARGUMENTS. A command byte names a command by the codes of the manual. A command with argument bytes
counts them in ARGUMENTS, most significant bit first, and is not executed before its last one. -/
def Obligations.TransactionsBeginAndEnd : Prop :=
  (∀ s : State, s.phase = .running →
    (s.pins.selectLow = false →
      exec .transactionBegin s =
        .next ((s.setPins { s.pins with selectLow := true }).setPort
          { s.port with trans := .command, command := none, args := [], image := none, imageIndex := 0, leads := 0, sending := none })) ∧
    (∀ code : Byte, namesCommand code = false → s.port.trans = .command →
      exec (.unknownCommand code) s = .next (s.setPort { s.port with trans := .ignoring, lastResult := .unknownCommand })) ∧
    (∀ edges : Nat,
      exec (.transactionEnd edges) s =
        .next ((s.setPins { s.pins with selectLow := false }).setPort
          { s.port with
            trans := .idle, command := none, args := [], image := none, imageIndex := 0, leads := 0, sending := none,
            clearsResult := false, restartOpen := false
            lastResult := if (s.port.trans = .command ∧ 0 < edges) ∨ s.port.trans = .arguments then .cutShort
              else s.port.lastResult }))) ∧
  (∀ (s : State) (row : List Bool → Instr) (c : PortCommand) (count : Nat) (bits args : List Bool),
    (row = .seek ∧ c = .seek ∧ count = 4) ∨ (row = .release ∧ c = .release ∧ count = 4) ∨ (row = .readRow ∧ c = .readRow ∧ count = 1) ∨
      (row = .clearNotices ∧ c = .clearNotices ∧ count = 2) ∨ (row = .setLabel ∧ c = .setLabel ∧ count = 4) ∨
      (∃ enable, row = .programSetup enable ∧ c = .programSetup ∧ count = 1004) →
    s.Takes c bits args → args.length < 8 * count →
    exec (row bits) s = .next (s.setPort { s.port with trans := .arguments, command := some c, args := args })) ∧
  (∀ bytes : List Byte, bytesOfPortBits (bytes.flatMap fun b => (List.range 8).map fun j => b.getLsbD (7 - j)) = bytes) ∧
  (∀ code : Byte,
    PortCommand.ofByte code =
      (match code.toNat with
        | 0x01 => some .readStatus | 0x02 => some .seek | 0x03 => some .readEntries | 0x04 => some .release | 0x05 => some .readRow
        | 0x06 => some .readRoster | 0x07 => some .readChannelState | 0x08 => some .readDriftTable | 0x09 => some .readSetup
        | 0x10 => some .clearNotices | 0x11 => some .setLabel | 0x12 => some .clearDriftTable | 0x13 => some .pipelineRestart
        | 0x14 => some .stationRestart | 0x15 => some .programSetup | _ => none) ∧
    (namesCommand code = (PortCommand.ofByte code).isSome))

/-- While a port hold stands every command of the port is answered BUSY: the result and the transaction apart, the station stays as it is,
and no image is sent. -/
def Obligations.HoldAnswersBusy : Prop :=
  ∀ (c : Instr) (s : State), s.phase = .running → s.port.trans = .command → s.port.hold ≠ .none →
    (c ∈ [.readStatus, .readEntries, .readRoster, .readChannelState, .readDriftTable, .readSetup, .clearDriftTable, .pipelineRestart,
        .stationRestart] ∨
      (∃ bits, 32 ≤ bits.length ∧ (c = .seek bits ∨ c = .release bits ∨ c = .setLabel bits)) ∨
      (∃ bits, 8 ≤ bits.length ∧ c = .readRow bits) ∨ (∃ bits, 16 ≤ bits.length ∧ c = .clearNotices bits) ∨
      ∃ enable bits, c = .programSetup enable bits ∧ 8032 ≤ bits.length) →
    ∃ t, exec c s = .next t ∧ t = s.setPort t.port ∧
      t.port.lastResult = .busy ∧ t.port.image = none ∧ t.port.hold = s.port.hold ∧ t.port.cursor = s.port.cursor ∧
      t.port.notices = s.port.notices ∧ (∀ edges bit, t.dataOut edges = some bit → bit = false)

/-- READ ROW, READ ROSTER, READ CHANNEL STATE, READ DRIFT TABLE and READ SETUP answer DONE with one image of their length, READ ROW above age 3
BAD_ARGUMENT with none, and change nothing but the port. The images hold what the blocks hold, field by field; the setup record's is the
stored record, but that rows of a bin table beyond its row count read zero (log 29). A flag or state that has a byte of its own and no code
is sent as 1 when set (the model's choice, log 36). Outside READ ENTRIES, data out then sends two lead
bytes of 0x00, the image, each byte's bit 7 first, and 0x00 after it; before execution and in IGNORING it sends 0x00, and while select is
high it is not driven. -/
def Obligations.ReadsReturnImages : Prop :=
  (∀ (s : State) (bits : List Bool) (age : Nat), s.phase = .running → s.port.trans = .command → s.port.hold = .none →
    (∃ t image, exec .readRoster s = .next t ∧ t = s.setPort t.port ∧ t.port.image = some image ∧ image.length = 392 ∧
      t.port.lastResult = .done ∧ t.port.trans = .response ∧ t.port.leads = 2 ∧ t.port.imageIndex = 0 ∧
      (∀ k : Station, (image.drop (49 * k.val)).take 49 =
        if s.member.roster[k].presence = .unseen then List.replicate 49 0
        else
          [byte s.member.roster[k].presence.code] ++ uField 1 s.member.roster[k].missed ++
          leBytes 4 ((s.member.roster[k].lastEpoch.getD 0).toNat) ++ uField 1 (s.member.roster[k].lastRank.getD 0) ++
          uField 4 (s.member.roster[k].lastAge.getD 0) ++ [byte ((s.member.roster[k].lastState.map TimeState.code).getD 0)] ++
          uField 1 s.member.roster[k].temps.length ++
          ((s.member.roster[k].temps.flatMap fun (x : TempRecord) =>
            byte (descriptor x.index x.kind x.quality) :: (sField 4 (x.value.getD 0) ++ leBytes 4 x.valueEpoch.toNat)) ++
              List.replicate 36 0).take 36)) ∧
    (∃ t image, exec .readChannelState s = .next t ∧ t = s.setPort t.port ∧ t.port.image = some image ∧ image.length = 245 ∧
      t.port.lastResult = .done ∧ t.port.trans = .response ∧ t.port.leads = 2 ∧ t.port.imageIndex = 0 ∧
      (∀ i : Channel, (image.drop (59 * i.val)).take 59 =
        [byte s.setup.channels[i].kind.code] ++
        (if s.setup.channels[i].kind.isVector then
          sField 1 s.front[i].bias ++ [byte s.front[i].runSign.code] ++ uField 1 s.front[i].runCount ++ uField 1 s.front[i].settle ++
            sField 8 s.front[i].heldValue ++ [byte (if s.front[i].saturated then 1 else 0)] ++ uField 1 s.front[i].inRange
        else List.replicate 14 0) ++
        (if s.setup.channels[i].kind = .off then List.replicate 9 0
        else match s.front[i].last with
          | some rec => [byte (128 + ((if rec.marks.fault then 1 else 0) + (if rec.marks.clipped then 2 else 0) +
              if rec.marks.held then 4 else 0))] ++ sField 8 rec.value
          | none => List.replicate 9 0) ++
        (if s.setup.channels[i].kind = .off then List.replicate 9 0
        else match s.dec[i].value with
          | some v => [byte (128 + match v.mark with
              | .none => 0
              | .fault => 1
              | .clipped => 2
              | .held => 4)] ++ sField 8 v.value
          | none => List.replicate 9 0) ++
        (if s.setup.channels[i].kind.isField then
          uField 1 s.corr[i].bin ++ [byte (if s.corr[i].snapped then 1 else 0), byte s.corr[i].freeze.code] ++ sField 4 s.corr[i].offset ++
            sField 4 s.corr[i].scale ++
            (match s.corr[i].glide with
              | some g => sField 4 g.targetOffset ++ sField 4 g.targetScale ++ uField 1 g.counter
              | none => sField 4 (s.setup.channels[i].row s.corr[i].bin).offset ++
                  sField 4 (s.setup.channels[i].row s.corr[i].bin).scale ++ uField 1 0) ++
            uField 1 (s.setup.channels[i].glideLength.getD 0)
        else List.replicate 21 0) ++
        (if s.setup.channels[i].kind = .off then List.replicate 5 0
        else match s.corr[i].corrected with
          | some v => [byte (128 + match v.corr with
              | .none => 0
              | .uncorrected => 1
              | .staleTemp => 2)] ++ sField 4 v.value
          | none => List.replicate 5 0)) ∧
      image.drop 236 =
        uField 1 s.check.outCount ++ uField 1 s.check.inCount ++
        [byte (if s.check.drift then 1 else 0), byte (if s.check.last = none then 0 else 128)] ++
        (match s.check.last with
          | some d => sField 4 d.value ++ [byte (d.station % 16 + 16 * d.channel.val)]
          | none => List.replicate 5 0)) ∧
    (∃ t image, exec .readDriftTable s = .next t ∧ t = s.setPort t.port ∧ t.port.image = some image ∧ image.length = 85 ∧
      t.port.lastResult = .done ∧ t.port.trans = .response ∧ t.port.leads = 2 ∧ t.port.imageIndex = 0 ∧
      image.take 5 = sField 4 s.tb.oscTemp ++ [byte (driftBinOf s.tb.oscTemp).val] ∧
      (∀ j : Fin 16, (image.drop (5 + 5 * j.val)).take 5 =
        sField 4 s.retention.drift[j].estimate ++ uField 1 s.retention.drift[j].weight)) ∧
    (∃ t image, exec .readSetup s = .next t ∧ t = s.setPort t.port ∧ t.port.image = some image ∧
      t.port.lastResult = .done ∧ t.port.trans = .response ∧ t.port.leads = 2 ∧ t.port.imageIndex = 0 ∧
      (s.store.stored.length = 1004 →
        image.length = 1004 ∧
        (∀ (i : Channel) (row j : Nat), (s.store.stored.getD (34 + 221 * i.val) 0).toNat ≤ row → row < 16 → j < 12 →
          image.getD (35 + 221 * i.val + 12 * row + j) 0 = 0) ∧
        (∀ j < 1004,
          (∀ i : Channel, j < 35 + 221 * i.val + 12 * (s.store.stored.getD (34 + 221 * i.val) 0).toNat ∨ 227 + 221 * i.val ≤ j) →
          image.getD j 0 = s.store.stored.getD j 0))) ∧
    (8 ≤ bits.length → age = leNat (bytesOfPortBits (bits.take 8)) →
      ∃ t, exec (.readRow bits) s = .next t ∧ t = s.setPort t.port ∧ t.port.trans = .response ∧
        (3 < age → t.port.image = none ∧ t.port.lastResult = .badArgument) ∧
        (age ≤ 3 → t.port.lastResult = .done ∧ t.port.leads = 2 ∧ t.port.imageIndex = 0 ∧
          ∃ image, t.port.image = some image ∧ image.length = 418 ∧
            ((s.table.rows.filter fun r => !r.isOpen)[age]? = none → image = List.replicate 418 0) ∧
            (∀ r, (s.table.rows.filter fun r => !r.isOpen)[age]? = some r →
              image.take 10 = leBytes 4 r.epoch.toNat ++ [byte ((r.leader.map stationNumber).getD 0), byte r.markKind.code] ++
                sField 2 (r.markPhase.getD (-32768)) ++ [byte r.summaryOr.toNat, byte (if r.cut then 1 else 0)] ∧
              ∀ k : Station, (image.drop (10 + 51 * k.val)).take 51 =
                [byte r.cells[k].state.code, byte ((r.cells[k].damage.map DamageKind.code).getD 0)] ++
                (match r.cells[k].report with
                  | some x => if r.cells[k].state = .empty then List.replicate 49 0
                      else byte (encodeReport x).length :: (encodeReport x ++ List.replicate 48 0).take 48
                  | none => List.replicate 49 0))))) ∧
  (∀ (s : State) (image : List Byte) (edges : Nat), s.phase = .running → s.pins.selectLow = true → s.port.trans = .response →
    s.port.command ≠ some .readEntries → s.port.image = some image → s.port.imageIndex = 0 → s.port.leads = 2 →
    s.dataOut edges = some ((([0, 0] ++ image).getD (edges / 8) 0).getLsbD (7 - edges % 8))) ∧
  (∀ (s : State) (edges : Nat), s.phase = .running →
    (s.pins.selectLow = false → s.dataOut edges = none) ∧
    (s.pins.selectLow = true → s.port.trans = .command ∨ s.port.trans = .arguments ∨ s.port.trans = .ignoring →
      s.dataOut edges = some false))

/-- READ STATUS sends the status image of 54 bytes, which ends with the last result, and sets none (a set edge-seen flag is sent as 1: the
model's choice, log 36); when its last byte has been clocked out the last result becomes NONE, and stays when a setup write completed in
between. -/
def Obligations.StatusImageClearsResultWhenClocked : Prop :=
  (∀ s : State, s.phase = .running → s.port.trans = .command → s.port.hold = .none →
    ∃ t image, exec .readStatus s = .next t ∧ t = s.setPort t.port ∧ t.port.image = some image ∧ image.length = 54 ∧
      image.getLast? = some (byte s.port.lastResult.code) ∧ t.port.lastResult = s.port.lastResult ∧ t.port.trans = .response ∧
      t.port.clearsResult = true ∧ t.port.leads = 2 ∧ t.port.imageIndex = 0 ∧
      image.take 4 = [byte ((s.member.number.map stationNumber).getD 0), byte s.member.state.code, byte s.tb.timeState.code,
        byte (leadRank s.tb s.setup.holdoverHours)] ∧
      (image.drop 4).take 12 = uField 4 s.tb.sourceAge ++ leBytes 4 s.tb.epochNumber.toNat ++ uField 4 s.tb.epochsSinceStart ∧
      (image.drop 16).take 6 = [byte ((s.mark.currentLeader.map stationNumber).getD 0)] ++ uField 2 s.mark.leaderless ++
        uField 1 s.line.collisions ++ [byte s.line.summaryDriven.toNat, byte (if s.events.edgeSeen then 1 else 0)] ∧
      (image.drop 22).take 6 = leBytes 2 s.currentConditions.toNat ++ leBytes 2 s.port.notices.toNat ++ leBytes 2 s.setup.noticeMask.toNat ∧
      (image.drop 28).take 16 = uField 4 s.retention.oldestKept ++ uField 4 s.retention.newest ++ uField 4 s.retention.releasePoint ++
        uField 4 s.retention.nextSeq ∧
      (image.drop 44).take 9 = uField 2 s.retention.keptCount ++ uField 2 s.retention.unreleasedCount ++
        uField 1 s.archive.queue.length ++ uField 4 s.port.cursor) ∧
  (∀ s : State, s.phase = .running → s.port.command = some .readStatus → s.port.image.isSome = true →
    ∃ t, exec .statusResultClocked s = .next t ∧ t = s.setPort t.port ∧
      t.port.lastResult = (if s.port.clearsResult then .none else s.port.lastResult) ∧
      (s.port.imageIndex = 0 → s.port.leads = 2 → t.port.imageIndex = (s.port.image.getD []).length ∧ t.port.leads = 0))

/-- CLEAR NOTICES, with its set of notices sampled as two bytes, makes every notice of its set clear and leaves the others, and is answered
DONE; ATTN then follows the unmasked notices that are left. -/
def Obligations.ClearNoticesClearsNamed : Prop :=
  ∀ (s : State) (bits args : List Bool) (notices : ConditionSet), s.Takes .clearNotices bits args → s.port.hold = .none →
    16 ≤ args.length → notices.toNat = leNat (bytesOfPortBits (args.take 16)) →
    ∃ t, exec (.clearNotices bits) s = .next t ∧ t = s.setPort t.port ∧ t.port.lastResult = .done ∧
      t.port.cursor = s.port.cursor ∧
      (∀ j < 16, t.port.notices.getLsbD j = (s.port.notices.getLsbD j && !notices.getLsbD j)) ∧
      (t.attn = true ↔ s.member.state = .halted ∨
        ∃ j < 16, s.port.notices.getLsbD j = true ∧ notices.getLsbD j = false ∧ s.setup.noticeMask.getLsbD j = false)

/-- SET LABEL, with its label sampled as four bytes, is taken in LOCKED and refused in every other time state; PIPELINE RESTART sets the
restart pending flag; STATION RESTART sets the hold RESTART_WAIT, and the start waits for the transaction that carried it. -/
def Obligations.LabelAndRestartsAreOrdered : Prop :=
  (∀ (s : State) (bits args : List Bool) (label : EpochNumber), s.Takes .setLabel bits args → s.port.hold = .none →
    32 ≤ args.length → label.toNat = leNat (bytesOfPortBits (args.take 32)) →
    ∃ t, exec (.setLabel bits) s = .next t ∧ t = (s.setTb t.tb).setPort t.port ∧
      (s.tb.timeState = .locked → t.tb = { s.tb with pendingLabel := some label } ∧ t.port.lastResult = .done) ∧
      (s.tb.timeState ≠ .locked → t.tb = s.tb ∧ t.port.lastResult = .refused)) ∧
  (∀ s : State, s.phase = .running → s.port.trans = .command → s.port.hold = .none →
    (∃ t, exec .pipelineRestart s = .next t ∧ t = (s.setRestartPending true).setPort t.port ∧ t.port.lastResult = .done) ∧
    (∃ t, exec .stationRestart s = .next t ∧ t = s.setPort t.port ∧ t.port.lastResult = .done ∧ t.port.hold = .restartWait ∧
      t.port.restartOpen = true)) ∧
  (∀ s : State, s.phase = .running → s.port.restartOpen = true → exec .restartStart s = .next s)

/-- CLEAR DRIFT TABLE empties every bin and changes neither f, nor the settle count, nor the oscillator temperature; a learning edge taken
on an empty bin gives it the value x and weight 1; a lookup of an empty table keeps f; the command is answered DONE. -/
def Obligations.ClearDriftTableEmptiesBins : Prop :=
  ∀ s : State, s.phase = .running → s.port.trans = .command → s.port.hold = .none →
    ∃ t, exec .clearDriftTable s = .next t ∧ (∀ i : Fin 16, t.retention.drift[i] = { estimate := 0, weight := 0 }) ∧
      t = (s.setRetention { s.retention with drift := t.retention.drift }).setPort t.port ∧
      t.tb.f = s.tb.f ∧ t.tb.settleCount = s.tb.settleCount ∧ t.tb.oscTemp = s.tb.oscTemp ∧ t.port.lastResult = .done ∧
      (∀ (tb : Timebase) (i : Fin 16), tb.settleCount = 60 → driftBinOf tb.oscTemp = i →
        (qualify tb t.retention.drift).drift[i] = { estimate := tb.f * 100, weight := 1 }) ∧
      (∀ temp f : Int, driftLookup t.retention.drift temp f = f)

/-! ### Setup programming and starts -/

/-- PROGRAM SETUP with its 1,004 argument bytes sampled acts by its first case: a hold, the pin low, a check word that does not match, or a
write that begins; the stored record stays until the write completes, which answers DONE and ends the hold. -/
def Obligations.ProgramSetupActsByCases : Prop :=
  (∀ (s : State) (enable : Bool) (bits args : List Bool) (record : List Byte), s.Takes .programSetup bits args → 8032 ≤ args.length →
    record = bytesOfPortBits (args.take 8032) →
    ∃ t, exec (.programSetup enable bits) s = .next t ∧ t.store.stored = s.store.stored ∧ t.setup = s.setup ∧ record.length = 1004 ∧
      (s.port.hold ≠ .none → t.store = s.store ∧ t.port.lastResult = .busy ∧ t.port.hold = s.port.hold) ∧
      (s.port.hold = .none → enable = false → t.store = s.store ∧ t.port.lastResult = .refused ∧ t.port.hold = .none) ∧
      (s.port.hold = .none → enable = true → leNat (record.drop 1002) ≠ (checkWord (record.take 1002)).toNat →
        t.store = s.store ∧ t.port.lastResult = .badArgument ∧ t.port.hold = .none) ∧
      (s.port.hold = .none → enable = true → leNat (record.drop 1002) = (checkWord (record.take 1002)).toNat →
        t.store.writing = some record ∧ t.port.lastResult = .busy ∧ t.port.hold = .setupWrite)) ∧
  (∀ (s : State) (record : List Byte), s.phase = .running → s.store.writing = some record →
    exec .setupWriteComplete s =
      .next ((s.setStore { stored := record, writing := none }).setPort
        { s.port with lastResult := .done, hold := .none, clearsResult := false }))

/-- Supply, RESET and the start of STATION RESTART, which begins once the transaction that carried it has ended and the write queue is
empty, whatever transaction is then under way: what a start interrupts is lost, the memories stay (with every write to retention memory but an
entry's in them: the model's choice, log 40), the stored record stays, the settings come from the stored record, and a start is held while
RESET stays asserted. RESET without supply and its release with no start held move the pin alone. -/
def Obligations.StartsBeginAndAreHeld : Prop :=
  (∀ (s : State) (c : Instr),
    (c = .powerOn ∨ (c = .resetAssert ∧ s.phase ≠ .off) ∨ (c = .resetRelease ∧ s.phase = .held) ∨
      (c = .restartStart ∧ s.phase = .running ∧ s.port.hold = .restartWait ∧ s.port.restartOpen = false ∧ s.archive.queue = []) ∨
      c = .powerLoss) →
    ∃ t, exec c s = .next t ∧ t.retention = s.retention ∧ t.store.stored = s.store.stored ∧ t.store.writing = none ∧
      t.archive.queue = [] ∧ t.archive.writing = none ∧ t.mark.drive = .released ∧ t.line.tx = none ∧
      t.line.summaryDriving = false ∧ t.member.chainTx = none ∧ t.attn = false ∧ t.table.rows = [] ∧ t.raised = 0 ∧
      t.port.trans = .idle ∧ t.port.lastResult = .none ∧ t.port.hold = .none ∧ t.port.notices = 0 ∧
      t.port.cursor = s.retention.oldestKept ∧ (∀ i : Channel, t.biasOutput i = 0) ∧
      t.phase = (if c = .powerLoss then .off else if t.pins.resetAsserted then .held else .starting) ∧
      t.pins = { s.pins with
        supply := if c = .powerOn then true else if c = .powerLoss then false else s.pins.supply
        resetAsserted := if c = .resetAssert then true else if c = .resetRelease then false else s.pins.resetAsserted } ∧
      (t.phase = .starting →
        t.setup = if recordMatches s.store.stored then acceptedSetup s.store.stored else Setup.halted)) ∧
  (∀ s : State, s.phase = .off → exec .resetAssert s = .next (s.setPins { s.pins with resetAsserted := true })) ∧
  (∀ s : State, s.phase ≠ .held → exec .resetRelease s = .next (s.setPins { s.pins with resetAsserted := false }))

/-- A start that completes gives every block its value after start and takes the first own boundary: epoch 0, FREE, the oscillator temperature
of the start's sample, also at the boundary (the model's choice, log 38), f from the drift table and with it the first epoch's length, the
number and the state of the numbering mode, the head flag from the HEAD pin in CHAIN mode (clear under a rejected record: the model's choice,
log 20), bias steps from retention memory, the filtered levels from the event pins, sampled for ATTEND inputs, the channels flushed, the start
bins with their rows applied, and the first row open. No reception stands before the first slot start (the model's choice, log 35). The
conditions that a start makes rise, and only their notices, are pending. -/
def Obligations.StartCompletesAtFirstBoundary : Prop :=
  ∀ (s : State) (x : StartSamples), s.phase = .starting →
    ∃ t r, exec (.startComplete x) s = .next t ∧ t.phase = .running ∧ t.setup = s.setup ∧ t.store.stored = s.store.stored ∧
      t.retention = s.retention ∧
      t.tb = { tick := 0
               epochLength := 10000000 + (driftLookup s.retention.drift x.oscTemp 0).tdiv 100
               f := driftLookup s.retention.drift x.oscTemp 0
               phaseTerm := 0
               carry := driftLookup s.retention.drift x.oscTemp 0 - 100 * (driftLookup s.retention.drift x.oscTemp 0).tdiv 100
               epochNumber := 0, epochsSinceStart := 0, held := none, numberFrom := .counting, lastMarkPhase := none
               timeState := .free, acquireCount := 0, firstEdgeTaken := false, missCount := 0, leaderRank := none
               sourceAge := 0xFFFFFFFF, pendingLabel := none, oscTemp := x.oscTemp, settleCount := 0
               windowEdge := false, nextWindowEdge := false } ∧
      t.mark = { pulse := none, lastRise := none
                 watch := { isOpen := true, taken := false, riseSeen := false }
                 nextWatch := { isOpen := true, taken := false, riseSeen := false }
                 drive := .released, led := false, contention := false, fallback := false, disagreement := false
                 currentLeader := none, nextLeader := none, leaderless := 0 } ∧
      t.line = { tx := none, collisions := 0, rx := none, summaryDriven := 0, summaryDriving := false, summaryDriveEnd := 0
                 summaryRise := none, summaryStored := false, summaryOr := 0 } ∧
      t.member = { head := decide (s.setup.rejected = false ∧ s.setup.fixedNumber = none ∧ x.head = true)
                   number := t.member.number, state := t.member.state, chainRx := .hunting, chainAfter := 0, chainTx := none
                   candidate := none, repeatCount := 0, quiet := 0, wordSeen := false, markedCloses := 0, silentCloses := 0
                   conflictQuiet := 0, roster := t.member.roster } ∧
      t.member.number = (if s.setup.rejected then none else
        match s.setup.fixedNumber with
        | some k => some k
        | none => if x.head then some 0 else none) ∧
      t.member.state = (if s.setup.rejected then .halted else if t.member.number = none then .unnumbered else .joining) ∧
      (∀ k : Station, t.member.roster[k] =
        { presence := .unseen, missed := 0, lastEpoch := none, lastRank := none, lastAge := none, lastState := none, temps := [] }) ∧
      t.table = { rows := [r], early := none } ∧ r.isOpen = true ∧ r.cut = false ∧ r.epoch = 0 ∧ r.leader = none ∧ r.markKind = .none ∧
      r.markPhase = none ∧ r.summaryOr = 0 ∧ (∀ k : Station, r.cells[k] = { state := .empty, damage := none, report := none, own := false }) ∧
      (∀ i : Channel,
        t.front[i] = { bias := t.front[i].bias, runSign := .none, runCount := 0, settle := 0, heldValue := 0, heldClipped := false
                       saturated := false, inRange := 0, last := none, lastRaw := none } ∧
        (∀ b, s.setup.channels[i].kind.isVector = true → s.retention.biasSlots[i] = some b → -15 ≤ b → b ≤ 15 →
          t.front[i].bias = b) ∧
        (s.setup.channels[i].kind.isVector = false ∨ s.retention.biasSlots[i] = none → t.front[i].bias = 0)) ∧
      t.pins = { s.pins with
        head := if s.setup.rejected = false ∧ s.setup.fixedNumber = none then x.head else s.pins.head
        eventHigh := #v[x.ev0, x.ev1] } ∧
      t.events.edgeSeen = false ∧
      (∀ i : Fin 2, t.events.filtered[i] = (t.pins.eventHigh[i] != s.setup.inputs[i].assertedLow) ∧
        t.events.sampled[i] = (decide (s.setup.inputs[i].function = .attend) && t.events.filtered[i])) ∧
      t.restartPending = false ∧
      (∀ i : Channel,
        t.dec[i] = { stage1 := [], stage1Count := 0, stage2 := [], value := none
                     warming := decide (s.setup.channels[i].kind ≠ .off) } ∧
        t.corr[i] = { bin := s.setup.channels[i].startBin
                      offset := (s.setup.channels[i].row s.setup.channels[i].startBin).offset
                      scale := (s.setup.channels[i].row s.setup.channels[i].startBin).scale
                      glide := none, snapped := false, freeze := .none, corrected := none }) ∧
      t.check = { outCount := 0, inCount := 0, drift := false, last := none } ∧
      t.archive = { queue := [], writing := none } ∧
      t.port = { trans := .idle, command := none, args := [], image := none, imageIndex := 0, leads := 0, sending := none
                 clearsResult := false, lastResult := .none, hold := .none, restartOpen := false, cursor := s.retention.oldestKept
                 notices := t.port.notices } ∧
      (t.setupFaultHolds = true → t.port.notices.getLsbD 15 = true ∧ t.raised.getLsbD 15 = true) ∧
      (t.warmingHolds = true ↔ ∃ i : Channel, s.setup.channels[i].kind ≠ .off) ∧
      (t.warmingHolds = true → t.port.notices.getLsbD 6 = true ∧ t.raised.getLsbD 6 = true) ∧
      (t.attendedHolds = true ↔ ∃ i : Fin 2, s.setup.inputs[i].function = .attend ∧ t.events.filtered[i] = true) ∧
      (t.attendedHolds = true → t.port.notices.getLsbD 9 = true ∧ t.raised.getLsbD 9 = true) ∧
      (∀ j < 16, t.port.notices.getLsbD j = true →
        (j = 15 ∧ t.setupFaultHolds = true) ∨ (j = 6 ∧ t.warmingHolds = true) ∨ (j = 9 ∧ t.attendedHolds = true))

/-! ### Invariants that every step keeps -/

/-- The ranges of the timebase, its source age among them, and of the drift table, with the source ages of the reports that the rows hold. -/
def Obligations.StepKeepsTimeSound : Prop := ∀ s t : State, s.TimeSound → step s = .next t → t.TimeSound

/-- Only a MEMBER marks and reports, only MEMBER and JOINING drive the summary window, and a number is held exactly in the states that hold
one. -/
def Obligations.StepKeepsSilence : Prop :=
  ∀ s t : State, s.Silent → s.member.Sound → step s = .next t → t.Silent ∧ t.member.Sound

/-- The ring of rows, the counts of the hut-side units, the front-ends and the decimator's windows stay in their ranges, and the setup store
holds and writes whole records. -/
def Obligations.StepKeepsRanges : Prop :=
  ∀ s t : State, step s = .next t →
    (s.table.Sound → t.table.Sound) ∧ (s.CountsSound → t.CountsSound) ∧ (s.ChannelsSound → t.ChannelsSound) ∧
    (s.store.Sound → t.store.Sound)

/-- While no glide runs, the applied coefficients of a field channel are those of its current bin's row; while one runs, its target is. -/
def Obligations.StepKeepsCorrectionSound : Prop := ∀ s t : State, s.CorrectionSound → step s = .next t → t.CorrectionSound

/-- The archive's ring, write queue, pointers and read cursor agree. -/
def Obligations.StepKeepsArchiveSound : Prop := ∀ s t : State, s.ArchiveSound → step s = .next t → t.ArchiveSound

/-- The state after reset is sound in every respect that the steps keep. -/
def Obligations.ResetIsSound : Prop :=
  State.reset.TimeSound ∧ State.reset.table.Sound ∧ State.reset.Silent ∧ State.reset.member.Sound ∧ State.reset.CountsSound ∧
  State.reset.ChannelsSound ∧ State.reset.CorrectionSound ∧ State.reset.ArchiveSound ∧ State.reset.store.Sound

end
end

