-- ==== Sys2Proof/Laws/State.lean ====
section
/-! SUPPORT. What each setter of Machine/Update.lean sets and leaves alone, one lemma per field per setter, and the reads of the array
maps. -/

namespace Sys2Proof.Machine

variable (s : State)

@[simp] theorem State.setPhase_phase (x : Phase) : (s.setPhase x).phase = x := rfl
@[simp] theorem State.setPhase_pins (x : Phase) : (s.setPhase x).pins = s.pins := rfl
@[simp] theorem State.setPhase_store (x : Phase) : (s.setPhase x).store = s.store := rfl
@[simp] theorem State.setPhase_setup (x : Phase) : (s.setPhase x).setup = s.setup := rfl
@[simp] theorem State.setPhase_retention (x : Phase) : (s.setPhase x).retention = s.retention := rfl
@[simp] theorem State.setPhase_tb (x : Phase) : (s.setPhase x).tb = s.tb := rfl
@[simp] theorem State.setPhase_mark (x : Phase) : (s.setPhase x).mark = s.mark := rfl
@[simp] theorem State.setPhase_line (x : Phase) : (s.setPhase x).line = s.line := rfl
@[simp] theorem State.setPhase_member (x : Phase) : (s.setPhase x).member = s.member := rfl
@[simp] theorem State.setPhase_table (x : Phase) : (s.setPhase x).table = s.table := rfl
@[simp] theorem State.setPhase_raised (x : Phase) : (s.setPhase x).raised = s.raised := rfl
@[simp] theorem State.setPhase_front (x : Phase) : (s.setPhase x).front = s.front := rfl
@[simp] theorem State.setPhase_events (x : Phase) : (s.setPhase x).events = s.events := rfl
@[simp] theorem State.setPhase_dec (x : Phase) : (s.setPhase x).dec = s.dec := rfl
@[simp] theorem State.setPhase_restartPending (x : Phase) : (s.setPhase x).restartPending = s.restartPending := rfl
@[simp] theorem State.setPhase_corr (x : Phase) : (s.setPhase x).corr = s.corr := rfl
@[simp] theorem State.setPhase_check (x : Phase) : (s.setPhase x).check = s.check := rfl
@[simp] theorem State.setPhase_archive (x : Phase) : (s.setPhase x).archive = s.archive := rfl
@[simp] theorem State.setPhase_port (x : Phase) : (s.setPhase x).port = s.port := rfl
@[simp] theorem State.setPhase_freeReads (x : Phase) : (s.setPhase x).freeReads = s.freeReads := rfl
@[simp] theorem State.setPhase_pending (x : Phase) : (s.setPhase x).pending = s.pending := rfl

@[simp] theorem State.setPins_phase (x : Pins) : (s.setPins x).phase = s.phase := rfl
@[simp] theorem State.setPins_pins (x : Pins) : (s.setPins x).pins = x := rfl
@[simp] theorem State.setPins_store (x : Pins) : (s.setPins x).store = s.store := rfl
@[simp] theorem State.setPins_setup (x : Pins) : (s.setPins x).setup = s.setup := rfl
@[simp] theorem State.setPins_retention (x : Pins) : (s.setPins x).retention = s.retention := rfl
@[simp] theorem State.setPins_tb (x : Pins) : (s.setPins x).tb = s.tb := rfl
@[simp] theorem State.setPins_mark (x : Pins) : (s.setPins x).mark = s.mark := rfl
@[simp] theorem State.setPins_line (x : Pins) : (s.setPins x).line = s.line := rfl
@[simp] theorem State.setPins_member (x : Pins) : (s.setPins x).member = s.member := rfl
@[simp] theorem State.setPins_table (x : Pins) : (s.setPins x).table = s.table := rfl
@[simp] theorem State.setPins_raised (x : Pins) : (s.setPins x).raised = s.raised := rfl
@[simp] theorem State.setPins_front (x : Pins) : (s.setPins x).front = s.front := rfl
@[simp] theorem State.setPins_events (x : Pins) : (s.setPins x).events = s.events := rfl
@[simp] theorem State.setPins_dec (x : Pins) : (s.setPins x).dec = s.dec := rfl
@[simp] theorem State.setPins_restartPending (x : Pins) : (s.setPins x).restartPending = s.restartPending := rfl
@[simp] theorem State.setPins_corr (x : Pins) : (s.setPins x).corr = s.corr := rfl
@[simp] theorem State.setPins_check (x : Pins) : (s.setPins x).check = s.check := rfl
@[simp] theorem State.setPins_archive (x : Pins) : (s.setPins x).archive = s.archive := rfl
@[simp] theorem State.setPins_port (x : Pins) : (s.setPins x).port = s.port := rfl
@[simp] theorem State.setPins_freeReads (x : Pins) : (s.setPins x).freeReads = s.freeReads := rfl
@[simp] theorem State.setPins_pending (x : Pins) : (s.setPins x).pending = s.pending := rfl

@[simp] theorem State.setStore_phase (x : SetupStore) : (s.setStore x).phase = s.phase := rfl
@[simp] theorem State.setStore_pins (x : SetupStore) : (s.setStore x).pins = s.pins := rfl
@[simp] theorem State.setStore_store (x : SetupStore) : (s.setStore x).store = x := rfl
@[simp] theorem State.setStore_setup (x : SetupStore) : (s.setStore x).setup = s.setup := rfl
@[simp] theorem State.setStore_retention (x : SetupStore) : (s.setStore x).retention = s.retention := rfl
@[simp] theorem State.setStore_tb (x : SetupStore) : (s.setStore x).tb = s.tb := rfl
@[simp] theorem State.setStore_mark (x : SetupStore) : (s.setStore x).mark = s.mark := rfl
@[simp] theorem State.setStore_line (x : SetupStore) : (s.setStore x).line = s.line := rfl
@[simp] theorem State.setStore_member (x : SetupStore) : (s.setStore x).member = s.member := rfl
@[simp] theorem State.setStore_table (x : SetupStore) : (s.setStore x).table = s.table := rfl
@[simp] theorem State.setStore_raised (x : SetupStore) : (s.setStore x).raised = s.raised := rfl
@[simp] theorem State.setStore_front (x : SetupStore) : (s.setStore x).front = s.front := rfl
@[simp] theorem State.setStore_events (x : SetupStore) : (s.setStore x).events = s.events := rfl
@[simp] theorem State.setStore_dec (x : SetupStore) : (s.setStore x).dec = s.dec := rfl
@[simp] theorem State.setStore_restartPending (x : SetupStore) : (s.setStore x).restartPending = s.restartPending := rfl
@[simp] theorem State.setStore_corr (x : SetupStore) : (s.setStore x).corr = s.corr := rfl
@[simp] theorem State.setStore_check (x : SetupStore) : (s.setStore x).check = s.check := rfl
@[simp] theorem State.setStore_archive (x : SetupStore) : (s.setStore x).archive = s.archive := rfl
@[simp] theorem State.setStore_port (x : SetupStore) : (s.setStore x).port = s.port := rfl
@[simp] theorem State.setStore_freeReads (x : SetupStore) : (s.setStore x).freeReads = s.freeReads := rfl
@[simp] theorem State.setStore_pending (x : SetupStore) : (s.setStore x).pending = s.pending := rfl

@[simp] theorem State.setSetup_phase (x : Setup) : (s.setSetup x).phase = s.phase := rfl
@[simp] theorem State.setSetup_pins (x : Setup) : (s.setSetup x).pins = s.pins := rfl
@[simp] theorem State.setSetup_store (x : Setup) : (s.setSetup x).store = s.store := rfl
@[simp] theorem State.setSetup_setup (x : Setup) : (s.setSetup x).setup = x := rfl
@[simp] theorem State.setSetup_retention (x : Setup) : (s.setSetup x).retention = s.retention := rfl
@[simp] theorem State.setSetup_tb (x : Setup) : (s.setSetup x).tb = s.tb := rfl
@[simp] theorem State.setSetup_mark (x : Setup) : (s.setSetup x).mark = s.mark := rfl
@[simp] theorem State.setSetup_line (x : Setup) : (s.setSetup x).line = s.line := rfl
@[simp] theorem State.setSetup_member (x : Setup) : (s.setSetup x).member = s.member := rfl
@[simp] theorem State.setSetup_table (x : Setup) : (s.setSetup x).table = s.table := rfl
@[simp] theorem State.setSetup_raised (x : Setup) : (s.setSetup x).raised = s.raised := rfl
@[simp] theorem State.setSetup_front (x : Setup) : (s.setSetup x).front = s.front := rfl
@[simp] theorem State.setSetup_events (x : Setup) : (s.setSetup x).events = s.events := rfl
@[simp] theorem State.setSetup_dec (x : Setup) : (s.setSetup x).dec = s.dec := rfl
@[simp] theorem State.setSetup_restartPending (x : Setup) : (s.setSetup x).restartPending = s.restartPending := rfl
@[simp] theorem State.setSetup_corr (x : Setup) : (s.setSetup x).corr = s.corr := rfl
@[simp] theorem State.setSetup_check (x : Setup) : (s.setSetup x).check = s.check := rfl
@[simp] theorem State.setSetup_archive (x : Setup) : (s.setSetup x).archive = s.archive := rfl
@[simp] theorem State.setSetup_port (x : Setup) : (s.setSetup x).port = s.port := rfl
@[simp] theorem State.setSetup_freeReads (x : Setup) : (s.setSetup x).freeReads = s.freeReads := rfl
@[simp] theorem State.setSetup_pending (x : Setup) : (s.setSetup x).pending = s.pending := rfl

@[simp] theorem State.setRetention_phase (x : Retention) : (s.setRetention x).phase = s.phase := rfl
@[simp] theorem State.setRetention_pins (x : Retention) : (s.setRetention x).pins = s.pins := rfl
@[simp] theorem State.setRetention_store (x : Retention) : (s.setRetention x).store = s.store := rfl
@[simp] theorem State.setRetention_setup (x : Retention) : (s.setRetention x).setup = s.setup := rfl
@[simp] theorem State.setRetention_retention (x : Retention) : (s.setRetention x).retention = x := rfl
@[simp] theorem State.setRetention_tb (x : Retention) : (s.setRetention x).tb = s.tb := rfl
@[simp] theorem State.setRetention_mark (x : Retention) : (s.setRetention x).mark = s.mark := rfl
@[simp] theorem State.setRetention_line (x : Retention) : (s.setRetention x).line = s.line := rfl
@[simp] theorem State.setRetention_member (x : Retention) : (s.setRetention x).member = s.member := rfl
@[simp] theorem State.setRetention_table (x : Retention) : (s.setRetention x).table = s.table := rfl
@[simp] theorem State.setRetention_raised (x : Retention) : (s.setRetention x).raised = s.raised := rfl
@[simp] theorem State.setRetention_front (x : Retention) : (s.setRetention x).front = s.front := rfl
@[simp] theorem State.setRetention_events (x : Retention) : (s.setRetention x).events = s.events := rfl
@[simp] theorem State.setRetention_dec (x : Retention) : (s.setRetention x).dec = s.dec := rfl
@[simp] theorem State.setRetention_restartPending (x : Retention) : (s.setRetention x).restartPending = s.restartPending := rfl
@[simp] theorem State.setRetention_corr (x : Retention) : (s.setRetention x).corr = s.corr := rfl
@[simp] theorem State.setRetention_check (x : Retention) : (s.setRetention x).check = s.check := rfl
@[simp] theorem State.setRetention_archive (x : Retention) : (s.setRetention x).archive = s.archive := rfl
@[simp] theorem State.setRetention_port (x : Retention) : (s.setRetention x).port = s.port := rfl
@[simp] theorem State.setRetention_freeReads (x : Retention) : (s.setRetention x).freeReads = s.freeReads := rfl
@[simp] theorem State.setRetention_pending (x : Retention) : (s.setRetention x).pending = s.pending := rfl

@[simp] theorem State.setTb_phase (x : Timebase) : (s.setTb x).phase = s.phase := rfl
@[simp] theorem State.setTb_pins (x : Timebase) : (s.setTb x).pins = s.pins := rfl
@[simp] theorem State.setTb_store (x : Timebase) : (s.setTb x).store = s.store := rfl
@[simp] theorem State.setTb_setup (x : Timebase) : (s.setTb x).setup = s.setup := rfl
@[simp] theorem State.setTb_retention (x : Timebase) : (s.setTb x).retention = s.retention := rfl
@[simp] theorem State.setTb_tb (x : Timebase) : (s.setTb x).tb = x := rfl
@[simp] theorem State.setTb_mark (x : Timebase) : (s.setTb x).mark = s.mark := rfl
@[simp] theorem State.setTb_line (x : Timebase) : (s.setTb x).line = s.line := rfl
@[simp] theorem State.setTb_member (x : Timebase) : (s.setTb x).member = s.member := rfl
@[simp] theorem State.setTb_table (x : Timebase) : (s.setTb x).table = s.table := rfl
@[simp] theorem State.setTb_raised (x : Timebase) : (s.setTb x).raised = s.raised := rfl
@[simp] theorem State.setTb_front (x : Timebase) : (s.setTb x).front = s.front := rfl
@[simp] theorem State.setTb_events (x : Timebase) : (s.setTb x).events = s.events := rfl
@[simp] theorem State.setTb_dec (x : Timebase) : (s.setTb x).dec = s.dec := rfl
@[simp] theorem State.setTb_restartPending (x : Timebase) : (s.setTb x).restartPending = s.restartPending := rfl
@[simp] theorem State.setTb_corr (x : Timebase) : (s.setTb x).corr = s.corr := rfl
@[simp] theorem State.setTb_check (x : Timebase) : (s.setTb x).check = s.check := rfl
@[simp] theorem State.setTb_archive (x : Timebase) : (s.setTb x).archive = s.archive := rfl
@[simp] theorem State.setTb_port (x : Timebase) : (s.setTb x).port = s.port := rfl
@[simp] theorem State.setTb_freeReads (x : Timebase) : (s.setTb x).freeReads = s.freeReads := rfl
@[simp] theorem State.setTb_pending (x : Timebase) : (s.setTb x).pending = s.pending := rfl

@[simp] theorem State.setMark_phase (x : MarkUnit) : (s.setMark x).phase = s.phase := rfl
@[simp] theorem State.setMark_pins (x : MarkUnit) : (s.setMark x).pins = s.pins := rfl
@[simp] theorem State.setMark_store (x : MarkUnit) : (s.setMark x).store = s.store := rfl
@[simp] theorem State.setMark_setup (x : MarkUnit) : (s.setMark x).setup = s.setup := rfl
@[simp] theorem State.setMark_retention (x : MarkUnit) : (s.setMark x).retention = s.retention := rfl
@[simp] theorem State.setMark_tb (x : MarkUnit) : (s.setMark x).tb = s.tb := rfl
@[simp] theorem State.setMark_mark (x : MarkUnit) : (s.setMark x).mark = x := rfl
@[simp] theorem State.setMark_line (x : MarkUnit) : (s.setMark x).line = s.line := rfl
@[simp] theorem State.setMark_member (x : MarkUnit) : (s.setMark x).member = s.member := rfl
@[simp] theorem State.setMark_table (x : MarkUnit) : (s.setMark x).table = s.table := rfl
@[simp] theorem State.setMark_raised (x : MarkUnit) : (s.setMark x).raised = s.raised := rfl
@[simp] theorem State.setMark_front (x : MarkUnit) : (s.setMark x).front = s.front := rfl
@[simp] theorem State.setMark_events (x : MarkUnit) : (s.setMark x).events = s.events := rfl
@[simp] theorem State.setMark_dec (x : MarkUnit) : (s.setMark x).dec = s.dec := rfl
@[simp] theorem State.setMark_restartPending (x : MarkUnit) : (s.setMark x).restartPending = s.restartPending := rfl
@[simp] theorem State.setMark_corr (x : MarkUnit) : (s.setMark x).corr = s.corr := rfl
@[simp] theorem State.setMark_check (x : MarkUnit) : (s.setMark x).check = s.check := rfl
@[simp] theorem State.setMark_archive (x : MarkUnit) : (s.setMark x).archive = s.archive := rfl
@[simp] theorem State.setMark_port (x : MarkUnit) : (s.setMark x).port = s.port := rfl
@[simp] theorem State.setMark_freeReads (x : MarkUnit) : (s.setMark x).freeReads = s.freeReads := rfl
@[simp] theorem State.setMark_pending (x : MarkUnit) : (s.setMark x).pending = s.pending := rfl

@[simp] theorem State.setLine_phase (x : DataLine) : (s.setLine x).phase = s.phase := rfl
@[simp] theorem State.setLine_pins (x : DataLine) : (s.setLine x).pins = s.pins := rfl
@[simp] theorem State.setLine_store (x : DataLine) : (s.setLine x).store = s.store := rfl
@[simp] theorem State.setLine_setup (x : DataLine) : (s.setLine x).setup = s.setup := rfl
@[simp] theorem State.setLine_retention (x : DataLine) : (s.setLine x).retention = s.retention := rfl
@[simp] theorem State.setLine_tb (x : DataLine) : (s.setLine x).tb = s.tb := rfl
@[simp] theorem State.setLine_mark (x : DataLine) : (s.setLine x).mark = s.mark := rfl
@[simp] theorem State.setLine_line (x : DataLine) : (s.setLine x).line = x := rfl
@[simp] theorem State.setLine_member (x : DataLine) : (s.setLine x).member = s.member := rfl
@[simp] theorem State.setLine_table (x : DataLine) : (s.setLine x).table = s.table := rfl
@[simp] theorem State.setLine_raised (x : DataLine) : (s.setLine x).raised = s.raised := rfl
@[simp] theorem State.setLine_front (x : DataLine) : (s.setLine x).front = s.front := rfl
@[simp] theorem State.setLine_events (x : DataLine) : (s.setLine x).events = s.events := rfl
@[simp] theorem State.setLine_dec (x : DataLine) : (s.setLine x).dec = s.dec := rfl
@[simp] theorem State.setLine_restartPending (x : DataLine) : (s.setLine x).restartPending = s.restartPending := rfl
@[simp] theorem State.setLine_corr (x : DataLine) : (s.setLine x).corr = s.corr := rfl
@[simp] theorem State.setLine_check (x : DataLine) : (s.setLine x).check = s.check := rfl
@[simp] theorem State.setLine_archive (x : DataLine) : (s.setLine x).archive = s.archive := rfl
@[simp] theorem State.setLine_port (x : DataLine) : (s.setLine x).port = s.port := rfl
@[simp] theorem State.setLine_freeReads (x : DataLine) : (s.setLine x).freeReads = s.freeReads := rfl
@[simp] theorem State.setLine_pending (x : DataLine) : (s.setLine x).pending = s.pending := rfl

@[simp] theorem State.setMember_phase (x : Member) : (s.setMember x).phase = s.phase := rfl
@[simp] theorem State.setMember_pins (x : Member) : (s.setMember x).pins = s.pins := rfl
@[simp] theorem State.setMember_store (x : Member) : (s.setMember x).store = s.store := rfl
@[simp] theorem State.setMember_setup (x : Member) : (s.setMember x).setup = s.setup := rfl
@[simp] theorem State.setMember_retention (x : Member) : (s.setMember x).retention = s.retention := rfl
@[simp] theorem State.setMember_tb (x : Member) : (s.setMember x).tb = s.tb := rfl
@[simp] theorem State.setMember_mark (x : Member) : (s.setMember x).mark = s.mark := rfl
@[simp] theorem State.setMember_line (x : Member) : (s.setMember x).line = s.line := rfl
@[simp] theorem State.setMember_member (x : Member) : (s.setMember x).member = x := rfl
@[simp] theorem State.setMember_table (x : Member) : (s.setMember x).table = s.table := rfl
@[simp] theorem State.setMember_raised (x : Member) : (s.setMember x).raised = s.raised := rfl
@[simp] theorem State.setMember_front (x : Member) : (s.setMember x).front = s.front := rfl
@[simp] theorem State.setMember_events (x : Member) : (s.setMember x).events = s.events := rfl
@[simp] theorem State.setMember_dec (x : Member) : (s.setMember x).dec = s.dec := rfl
@[simp] theorem State.setMember_restartPending (x : Member) : (s.setMember x).restartPending = s.restartPending := rfl
@[simp] theorem State.setMember_corr (x : Member) : (s.setMember x).corr = s.corr := rfl
@[simp] theorem State.setMember_check (x : Member) : (s.setMember x).check = s.check := rfl
@[simp] theorem State.setMember_archive (x : Member) : (s.setMember x).archive = s.archive := rfl
@[simp] theorem State.setMember_port (x : Member) : (s.setMember x).port = s.port := rfl
@[simp] theorem State.setMember_freeReads (x : Member) : (s.setMember x).freeReads = s.freeReads := rfl
@[simp] theorem State.setMember_pending (x : Member) : (s.setMember x).pending = s.pending := rfl

@[simp] theorem State.setTable_phase (x : EpochTable) : (s.setTable x).phase = s.phase := rfl
@[simp] theorem State.setTable_pins (x : EpochTable) : (s.setTable x).pins = s.pins := rfl
@[simp] theorem State.setTable_store (x : EpochTable) : (s.setTable x).store = s.store := rfl
@[simp] theorem State.setTable_setup (x : EpochTable) : (s.setTable x).setup = s.setup := rfl
@[simp] theorem State.setTable_retention (x : EpochTable) : (s.setTable x).retention = s.retention := rfl
@[simp] theorem State.setTable_tb (x : EpochTable) : (s.setTable x).tb = s.tb := rfl
@[simp] theorem State.setTable_mark (x : EpochTable) : (s.setTable x).mark = s.mark := rfl
@[simp] theorem State.setTable_line (x : EpochTable) : (s.setTable x).line = s.line := rfl
@[simp] theorem State.setTable_member (x : EpochTable) : (s.setTable x).member = s.member := rfl
@[simp] theorem State.setTable_table (x : EpochTable) : (s.setTable x).table = x := rfl
@[simp] theorem State.setTable_raised (x : EpochTable) : (s.setTable x).raised = s.raised := rfl
@[simp] theorem State.setTable_front (x : EpochTable) : (s.setTable x).front = s.front := rfl
@[simp] theorem State.setTable_events (x : EpochTable) : (s.setTable x).events = s.events := rfl
@[simp] theorem State.setTable_dec (x : EpochTable) : (s.setTable x).dec = s.dec := rfl
@[simp] theorem State.setTable_restartPending (x : EpochTable) : (s.setTable x).restartPending = s.restartPending := rfl
@[simp] theorem State.setTable_corr (x : EpochTable) : (s.setTable x).corr = s.corr := rfl
@[simp] theorem State.setTable_check (x : EpochTable) : (s.setTable x).check = s.check := rfl
@[simp] theorem State.setTable_archive (x : EpochTable) : (s.setTable x).archive = s.archive := rfl
@[simp] theorem State.setTable_port (x : EpochTable) : (s.setTable x).port = s.port := rfl
@[simp] theorem State.setTable_freeReads (x : EpochTable) : (s.setTable x).freeReads = s.freeReads := rfl
@[simp] theorem State.setTable_pending (x : EpochTable) : (s.setTable x).pending = s.pending := rfl

@[simp] theorem State.setRaised_phase (x : ConditionSet) : (s.setRaised x).phase = s.phase := rfl
@[simp] theorem State.setRaised_pins (x : ConditionSet) : (s.setRaised x).pins = s.pins := rfl
@[simp] theorem State.setRaised_store (x : ConditionSet) : (s.setRaised x).store = s.store := rfl
@[simp] theorem State.setRaised_setup (x : ConditionSet) : (s.setRaised x).setup = s.setup := rfl
@[simp] theorem State.setRaised_retention (x : ConditionSet) : (s.setRaised x).retention = s.retention := rfl
@[simp] theorem State.setRaised_tb (x : ConditionSet) : (s.setRaised x).tb = s.tb := rfl
@[simp] theorem State.setRaised_mark (x : ConditionSet) : (s.setRaised x).mark = s.mark := rfl
@[simp] theorem State.setRaised_line (x : ConditionSet) : (s.setRaised x).line = s.line := rfl
@[simp] theorem State.setRaised_member (x : ConditionSet) : (s.setRaised x).member = s.member := rfl
@[simp] theorem State.setRaised_table (x : ConditionSet) : (s.setRaised x).table = s.table := rfl
@[simp] theorem State.setRaised_raised (x : ConditionSet) : (s.setRaised x).raised = x := rfl
@[simp] theorem State.setRaised_front (x : ConditionSet) : (s.setRaised x).front = s.front := rfl
@[simp] theorem State.setRaised_events (x : ConditionSet) : (s.setRaised x).events = s.events := rfl
@[simp] theorem State.setRaised_dec (x : ConditionSet) : (s.setRaised x).dec = s.dec := rfl
@[simp] theorem State.setRaised_restartPending (x : ConditionSet) : (s.setRaised x).restartPending = s.restartPending := rfl
@[simp] theorem State.setRaised_corr (x : ConditionSet) : (s.setRaised x).corr = s.corr := rfl
@[simp] theorem State.setRaised_check (x : ConditionSet) : (s.setRaised x).check = s.check := rfl
@[simp] theorem State.setRaised_archive (x : ConditionSet) : (s.setRaised x).archive = s.archive := rfl
@[simp] theorem State.setRaised_port (x : ConditionSet) : (s.setRaised x).port = s.port := rfl
@[simp] theorem State.setRaised_freeReads (x : ConditionSet) : (s.setRaised x).freeReads = s.freeReads := rfl
@[simp] theorem State.setRaised_pending (x : ConditionSet) : (s.setRaised x).pending = s.pending := rfl

@[simp] theorem State.setFront_phase (x : Vector FrontEnd 4) : (s.setFront x).phase = s.phase := rfl
@[simp] theorem State.setFront_pins (x : Vector FrontEnd 4) : (s.setFront x).pins = s.pins := rfl
@[simp] theorem State.setFront_store (x : Vector FrontEnd 4) : (s.setFront x).store = s.store := rfl
@[simp] theorem State.setFront_setup (x : Vector FrontEnd 4) : (s.setFront x).setup = s.setup := rfl
@[simp] theorem State.setFront_retention (x : Vector FrontEnd 4) : (s.setFront x).retention = s.retention := rfl
@[simp] theorem State.setFront_tb (x : Vector FrontEnd 4) : (s.setFront x).tb = s.tb := rfl
@[simp] theorem State.setFront_mark (x : Vector FrontEnd 4) : (s.setFront x).mark = s.mark := rfl
@[simp] theorem State.setFront_line (x : Vector FrontEnd 4) : (s.setFront x).line = s.line := rfl
@[simp] theorem State.setFront_member (x : Vector FrontEnd 4) : (s.setFront x).member = s.member := rfl
@[simp] theorem State.setFront_table (x : Vector FrontEnd 4) : (s.setFront x).table = s.table := rfl
@[simp] theorem State.setFront_raised (x : Vector FrontEnd 4) : (s.setFront x).raised = s.raised := rfl
@[simp] theorem State.setFront_front (x : Vector FrontEnd 4) : (s.setFront x).front = x := rfl
@[simp] theorem State.setFront_events (x : Vector FrontEnd 4) : (s.setFront x).events = s.events := rfl
@[simp] theorem State.setFront_dec (x : Vector FrontEnd 4) : (s.setFront x).dec = s.dec := rfl
@[simp] theorem State.setFront_restartPending (x : Vector FrontEnd 4) : (s.setFront x).restartPending = s.restartPending := rfl
@[simp] theorem State.setFront_corr (x : Vector FrontEnd 4) : (s.setFront x).corr = s.corr := rfl
@[simp] theorem State.setFront_check (x : Vector FrontEnd 4) : (s.setFront x).check = s.check := rfl
@[simp] theorem State.setFront_archive (x : Vector FrontEnd 4) : (s.setFront x).archive = s.archive := rfl
@[simp] theorem State.setFront_port (x : Vector FrontEnd 4) : (s.setFront x).port = s.port := rfl
@[simp] theorem State.setFront_freeReads (x : Vector FrontEnd 4) : (s.setFront x).freeReads = s.freeReads := rfl
@[simp] theorem State.setFront_pending (x : Vector FrontEnd 4) : (s.setFront x).pending = s.pending := rfl

@[simp] theorem State.setEvents_phase (x : EventInputs) : (s.setEvents x).phase = s.phase := rfl
@[simp] theorem State.setEvents_pins (x : EventInputs) : (s.setEvents x).pins = s.pins := rfl
@[simp] theorem State.setEvents_store (x : EventInputs) : (s.setEvents x).store = s.store := rfl
@[simp] theorem State.setEvents_setup (x : EventInputs) : (s.setEvents x).setup = s.setup := rfl
@[simp] theorem State.setEvents_retention (x : EventInputs) : (s.setEvents x).retention = s.retention := rfl
@[simp] theorem State.setEvents_tb (x : EventInputs) : (s.setEvents x).tb = s.tb := rfl
@[simp] theorem State.setEvents_mark (x : EventInputs) : (s.setEvents x).mark = s.mark := rfl
@[simp] theorem State.setEvents_line (x : EventInputs) : (s.setEvents x).line = s.line := rfl
@[simp] theorem State.setEvents_member (x : EventInputs) : (s.setEvents x).member = s.member := rfl
@[simp] theorem State.setEvents_table (x : EventInputs) : (s.setEvents x).table = s.table := rfl
@[simp] theorem State.setEvents_raised (x : EventInputs) : (s.setEvents x).raised = s.raised := rfl
@[simp] theorem State.setEvents_front (x : EventInputs) : (s.setEvents x).front = s.front := rfl
@[simp] theorem State.setEvents_events (x : EventInputs) : (s.setEvents x).events = x := rfl
@[simp] theorem State.setEvents_dec (x : EventInputs) : (s.setEvents x).dec = s.dec := rfl
@[simp] theorem State.setEvents_restartPending (x : EventInputs) : (s.setEvents x).restartPending = s.restartPending := rfl
@[simp] theorem State.setEvents_corr (x : EventInputs) : (s.setEvents x).corr = s.corr := rfl
@[simp] theorem State.setEvents_check (x : EventInputs) : (s.setEvents x).check = s.check := rfl
@[simp] theorem State.setEvents_archive (x : EventInputs) : (s.setEvents x).archive = s.archive := rfl
@[simp] theorem State.setEvents_port (x : EventInputs) : (s.setEvents x).port = s.port := rfl
@[simp] theorem State.setEvents_freeReads (x : EventInputs) : (s.setEvents x).freeReads = s.freeReads := rfl
@[simp] theorem State.setEvents_pending (x : EventInputs) : (s.setEvents x).pending = s.pending := rfl

@[simp] theorem State.setDec_phase (x : Vector DecChannel 4) : (s.setDec x).phase = s.phase := rfl
@[simp] theorem State.setDec_pins (x : Vector DecChannel 4) : (s.setDec x).pins = s.pins := rfl
@[simp] theorem State.setDec_store (x : Vector DecChannel 4) : (s.setDec x).store = s.store := rfl
@[simp] theorem State.setDec_setup (x : Vector DecChannel 4) : (s.setDec x).setup = s.setup := rfl
@[simp] theorem State.setDec_retention (x : Vector DecChannel 4) : (s.setDec x).retention = s.retention := rfl
@[simp] theorem State.setDec_tb (x : Vector DecChannel 4) : (s.setDec x).tb = s.tb := rfl
@[simp] theorem State.setDec_mark (x : Vector DecChannel 4) : (s.setDec x).mark = s.mark := rfl
@[simp] theorem State.setDec_line (x : Vector DecChannel 4) : (s.setDec x).line = s.line := rfl
@[simp] theorem State.setDec_member (x : Vector DecChannel 4) : (s.setDec x).member = s.member := rfl
@[simp] theorem State.setDec_table (x : Vector DecChannel 4) : (s.setDec x).table = s.table := rfl
@[simp] theorem State.setDec_raised (x : Vector DecChannel 4) : (s.setDec x).raised = s.raised := rfl
@[simp] theorem State.setDec_front (x : Vector DecChannel 4) : (s.setDec x).front = s.front := rfl
@[simp] theorem State.setDec_events (x : Vector DecChannel 4) : (s.setDec x).events = s.events := rfl
@[simp] theorem State.setDec_dec (x : Vector DecChannel 4) : (s.setDec x).dec = x := rfl
@[simp] theorem State.setDec_restartPending (x : Vector DecChannel 4) : (s.setDec x).restartPending = s.restartPending := rfl
@[simp] theorem State.setDec_corr (x : Vector DecChannel 4) : (s.setDec x).corr = s.corr := rfl
@[simp] theorem State.setDec_check (x : Vector DecChannel 4) : (s.setDec x).check = s.check := rfl
@[simp] theorem State.setDec_archive (x : Vector DecChannel 4) : (s.setDec x).archive = s.archive := rfl
@[simp] theorem State.setDec_port (x : Vector DecChannel 4) : (s.setDec x).port = s.port := rfl
@[simp] theorem State.setDec_freeReads (x : Vector DecChannel 4) : (s.setDec x).freeReads = s.freeReads := rfl
@[simp] theorem State.setDec_pending (x : Vector DecChannel 4) : (s.setDec x).pending = s.pending := rfl

@[simp] theorem State.setRestartPending_phase (x : Bool) : (s.setRestartPending x).phase = s.phase := rfl
@[simp] theorem State.setRestartPending_pins (x : Bool) : (s.setRestartPending x).pins = s.pins := rfl
@[simp] theorem State.setRestartPending_store (x : Bool) : (s.setRestartPending x).store = s.store := rfl
@[simp] theorem State.setRestartPending_setup (x : Bool) : (s.setRestartPending x).setup = s.setup := rfl
@[simp] theorem State.setRestartPending_retention (x : Bool) : (s.setRestartPending x).retention = s.retention := rfl
@[simp] theorem State.setRestartPending_tb (x : Bool) : (s.setRestartPending x).tb = s.tb := rfl
@[simp] theorem State.setRestartPending_mark (x : Bool) : (s.setRestartPending x).mark = s.mark := rfl
@[simp] theorem State.setRestartPending_line (x : Bool) : (s.setRestartPending x).line = s.line := rfl
@[simp] theorem State.setRestartPending_member (x : Bool) : (s.setRestartPending x).member = s.member := rfl
@[simp] theorem State.setRestartPending_table (x : Bool) : (s.setRestartPending x).table = s.table := rfl
@[simp] theorem State.setRestartPending_raised (x : Bool) : (s.setRestartPending x).raised = s.raised := rfl
@[simp] theorem State.setRestartPending_front (x : Bool) : (s.setRestartPending x).front = s.front := rfl
@[simp] theorem State.setRestartPending_events (x : Bool) : (s.setRestartPending x).events = s.events := rfl
@[simp] theorem State.setRestartPending_dec (x : Bool) : (s.setRestartPending x).dec = s.dec := rfl
@[simp] theorem State.setRestartPending_restartPending (x : Bool) : (s.setRestartPending x).restartPending = x := rfl
@[simp] theorem State.setRestartPending_corr (x : Bool) : (s.setRestartPending x).corr = s.corr := rfl
@[simp] theorem State.setRestartPending_check (x : Bool) : (s.setRestartPending x).check = s.check := rfl
@[simp] theorem State.setRestartPending_archive (x : Bool) : (s.setRestartPending x).archive = s.archive := rfl
@[simp] theorem State.setRestartPending_port (x : Bool) : (s.setRestartPending x).port = s.port := rfl
@[simp] theorem State.setRestartPending_freeReads (x : Bool) : (s.setRestartPending x).freeReads = s.freeReads := rfl
@[simp] theorem State.setRestartPending_pending (x : Bool) : (s.setRestartPending x).pending = s.pending := rfl

@[simp] theorem State.setCorr_phase (x : Vector CorrChannel 4) : (s.setCorr x).phase = s.phase := rfl
@[simp] theorem State.setCorr_pins (x : Vector CorrChannel 4) : (s.setCorr x).pins = s.pins := rfl
@[simp] theorem State.setCorr_store (x : Vector CorrChannel 4) : (s.setCorr x).store = s.store := rfl
@[simp] theorem State.setCorr_setup (x : Vector CorrChannel 4) : (s.setCorr x).setup = s.setup := rfl
@[simp] theorem State.setCorr_retention (x : Vector CorrChannel 4) : (s.setCorr x).retention = s.retention := rfl
@[simp] theorem State.setCorr_tb (x : Vector CorrChannel 4) : (s.setCorr x).tb = s.tb := rfl
@[simp] theorem State.setCorr_mark (x : Vector CorrChannel 4) : (s.setCorr x).mark = s.mark := rfl
@[simp] theorem State.setCorr_line (x : Vector CorrChannel 4) : (s.setCorr x).line = s.line := rfl
@[simp] theorem State.setCorr_member (x : Vector CorrChannel 4) : (s.setCorr x).member = s.member := rfl
@[simp] theorem State.setCorr_table (x : Vector CorrChannel 4) : (s.setCorr x).table = s.table := rfl
@[simp] theorem State.setCorr_raised (x : Vector CorrChannel 4) : (s.setCorr x).raised = s.raised := rfl
@[simp] theorem State.setCorr_front (x : Vector CorrChannel 4) : (s.setCorr x).front = s.front := rfl
@[simp] theorem State.setCorr_events (x : Vector CorrChannel 4) : (s.setCorr x).events = s.events := rfl
@[simp] theorem State.setCorr_dec (x : Vector CorrChannel 4) : (s.setCorr x).dec = s.dec := rfl
@[simp] theorem State.setCorr_restartPending (x : Vector CorrChannel 4) : (s.setCorr x).restartPending = s.restartPending := rfl
@[simp] theorem State.setCorr_corr (x : Vector CorrChannel 4) : (s.setCorr x).corr = x := rfl
@[simp] theorem State.setCorr_check (x : Vector CorrChannel 4) : (s.setCorr x).check = s.check := rfl
@[simp] theorem State.setCorr_archive (x : Vector CorrChannel 4) : (s.setCorr x).archive = s.archive := rfl
@[simp] theorem State.setCorr_port (x : Vector CorrChannel 4) : (s.setCorr x).port = s.port := rfl
@[simp] theorem State.setCorr_freeReads (x : Vector CorrChannel 4) : (s.setCorr x).freeReads = s.freeReads := rfl
@[simp] theorem State.setCorr_pending (x : Vector CorrChannel 4) : (s.setCorr x).pending = s.pending := rfl

@[simp] theorem State.setCheck_phase (x : FieldCheck) : (s.setCheck x).phase = s.phase := rfl
@[simp] theorem State.setCheck_pins (x : FieldCheck) : (s.setCheck x).pins = s.pins := rfl
@[simp] theorem State.setCheck_store (x : FieldCheck) : (s.setCheck x).store = s.store := rfl
@[simp] theorem State.setCheck_setup (x : FieldCheck) : (s.setCheck x).setup = s.setup := rfl
@[simp] theorem State.setCheck_retention (x : FieldCheck) : (s.setCheck x).retention = s.retention := rfl
@[simp] theorem State.setCheck_tb (x : FieldCheck) : (s.setCheck x).tb = s.tb := rfl
@[simp] theorem State.setCheck_mark (x : FieldCheck) : (s.setCheck x).mark = s.mark := rfl
@[simp] theorem State.setCheck_line (x : FieldCheck) : (s.setCheck x).line = s.line := rfl
@[simp] theorem State.setCheck_member (x : FieldCheck) : (s.setCheck x).member = s.member := rfl
@[simp] theorem State.setCheck_table (x : FieldCheck) : (s.setCheck x).table = s.table := rfl
@[simp] theorem State.setCheck_raised (x : FieldCheck) : (s.setCheck x).raised = s.raised := rfl
@[simp] theorem State.setCheck_front (x : FieldCheck) : (s.setCheck x).front = s.front := rfl
@[simp] theorem State.setCheck_events (x : FieldCheck) : (s.setCheck x).events = s.events := rfl
@[simp] theorem State.setCheck_dec (x : FieldCheck) : (s.setCheck x).dec = s.dec := rfl
@[simp] theorem State.setCheck_restartPending (x : FieldCheck) : (s.setCheck x).restartPending = s.restartPending := rfl
@[simp] theorem State.setCheck_corr (x : FieldCheck) : (s.setCheck x).corr = s.corr := rfl
@[simp] theorem State.setCheck_check (x : FieldCheck) : (s.setCheck x).check = x := rfl
@[simp] theorem State.setCheck_archive (x : FieldCheck) : (s.setCheck x).archive = s.archive := rfl
@[simp] theorem State.setCheck_port (x : FieldCheck) : (s.setCheck x).port = s.port := rfl
@[simp] theorem State.setCheck_freeReads (x : FieldCheck) : (s.setCheck x).freeReads = s.freeReads := rfl
@[simp] theorem State.setCheck_pending (x : FieldCheck) : (s.setCheck x).pending = s.pending := rfl

@[simp] theorem State.setArchive_phase (x : Archive) : (s.setArchive x).phase = s.phase := rfl
@[simp] theorem State.setArchive_pins (x : Archive) : (s.setArchive x).pins = s.pins := rfl
@[simp] theorem State.setArchive_store (x : Archive) : (s.setArchive x).store = s.store := rfl
@[simp] theorem State.setArchive_setup (x : Archive) : (s.setArchive x).setup = s.setup := rfl
@[simp] theorem State.setArchive_retention (x : Archive) : (s.setArchive x).retention = s.retention := rfl
@[simp] theorem State.setArchive_tb (x : Archive) : (s.setArchive x).tb = s.tb := rfl
@[simp] theorem State.setArchive_mark (x : Archive) : (s.setArchive x).mark = s.mark := rfl
@[simp] theorem State.setArchive_line (x : Archive) : (s.setArchive x).line = s.line := rfl
@[simp] theorem State.setArchive_member (x : Archive) : (s.setArchive x).member = s.member := rfl
@[simp] theorem State.setArchive_table (x : Archive) : (s.setArchive x).table = s.table := rfl
@[simp] theorem State.setArchive_raised (x : Archive) : (s.setArchive x).raised = s.raised := rfl
@[simp] theorem State.setArchive_front (x : Archive) : (s.setArchive x).front = s.front := rfl
@[simp] theorem State.setArchive_events (x : Archive) : (s.setArchive x).events = s.events := rfl
@[simp] theorem State.setArchive_dec (x : Archive) : (s.setArchive x).dec = s.dec := rfl
@[simp] theorem State.setArchive_restartPending (x : Archive) : (s.setArchive x).restartPending = s.restartPending := rfl
@[simp] theorem State.setArchive_corr (x : Archive) : (s.setArchive x).corr = s.corr := rfl
@[simp] theorem State.setArchive_check (x : Archive) : (s.setArchive x).check = s.check := rfl
@[simp] theorem State.setArchive_archive (x : Archive) : (s.setArchive x).archive = x := rfl
@[simp] theorem State.setArchive_port (x : Archive) : (s.setArchive x).port = s.port := rfl
@[simp] theorem State.setArchive_freeReads (x : Archive) : (s.setArchive x).freeReads = s.freeReads := rfl
@[simp] theorem State.setArchive_pending (x : Archive) : (s.setArchive x).pending = s.pending := rfl

@[simp] theorem State.setPort_phase (x : Port) : (s.setPort x).phase = s.phase := rfl
@[simp] theorem State.setPort_pins (x : Port) : (s.setPort x).pins = s.pins := rfl
@[simp] theorem State.setPort_store (x : Port) : (s.setPort x).store = s.store := rfl
@[simp] theorem State.setPort_setup (x : Port) : (s.setPort x).setup = s.setup := rfl
@[simp] theorem State.setPort_retention (x : Port) : (s.setPort x).retention = s.retention := rfl
@[simp] theorem State.setPort_tb (x : Port) : (s.setPort x).tb = s.tb := rfl
@[simp] theorem State.setPort_mark (x : Port) : (s.setPort x).mark = s.mark := rfl
@[simp] theorem State.setPort_line (x : Port) : (s.setPort x).line = s.line := rfl
@[simp] theorem State.setPort_member (x : Port) : (s.setPort x).member = s.member := rfl
@[simp] theorem State.setPort_table (x : Port) : (s.setPort x).table = s.table := rfl
@[simp] theorem State.setPort_raised (x : Port) : (s.setPort x).raised = s.raised := rfl
@[simp] theorem State.setPort_front (x : Port) : (s.setPort x).front = s.front := rfl
@[simp] theorem State.setPort_events (x : Port) : (s.setPort x).events = s.events := rfl
@[simp] theorem State.setPort_dec (x : Port) : (s.setPort x).dec = s.dec := rfl
@[simp] theorem State.setPort_restartPending (x : Port) : (s.setPort x).restartPending = s.restartPending := rfl
@[simp] theorem State.setPort_corr (x : Port) : (s.setPort x).corr = s.corr := rfl
@[simp] theorem State.setPort_check (x : Port) : (s.setPort x).check = s.check := rfl
@[simp] theorem State.setPort_archive (x : Port) : (s.setPort x).archive = s.archive := rfl
@[simp] theorem State.setPort_port (x : Port) : (s.setPort x).port = x := rfl
@[simp] theorem State.setPort_freeReads (x : Port) : (s.setPort x).freeReads = s.freeReads := rfl
@[simp] theorem State.setPort_pending (x : Port) : (s.setPort x).pending = s.pending := rfl

@[simp] theorem State.setFreeReads_phase (x : Nat) : (s.setFreeReads x).phase = s.phase := rfl
@[simp] theorem State.setFreeReads_pins (x : Nat) : (s.setFreeReads x).pins = s.pins := rfl
@[simp] theorem State.setFreeReads_store (x : Nat) : (s.setFreeReads x).store = s.store := rfl
@[simp] theorem State.setFreeReads_setup (x : Nat) : (s.setFreeReads x).setup = s.setup := rfl
@[simp] theorem State.setFreeReads_retention (x : Nat) : (s.setFreeReads x).retention = s.retention := rfl
@[simp] theorem State.setFreeReads_tb (x : Nat) : (s.setFreeReads x).tb = s.tb := rfl
@[simp] theorem State.setFreeReads_mark (x : Nat) : (s.setFreeReads x).mark = s.mark := rfl
@[simp] theorem State.setFreeReads_line (x : Nat) : (s.setFreeReads x).line = s.line := rfl
@[simp] theorem State.setFreeReads_member (x : Nat) : (s.setFreeReads x).member = s.member := rfl
@[simp] theorem State.setFreeReads_table (x : Nat) : (s.setFreeReads x).table = s.table := rfl
@[simp] theorem State.setFreeReads_raised (x : Nat) : (s.setFreeReads x).raised = s.raised := rfl
@[simp] theorem State.setFreeReads_front (x : Nat) : (s.setFreeReads x).front = s.front := rfl
@[simp] theorem State.setFreeReads_events (x : Nat) : (s.setFreeReads x).events = s.events := rfl
@[simp] theorem State.setFreeReads_dec (x : Nat) : (s.setFreeReads x).dec = s.dec := rfl
@[simp] theorem State.setFreeReads_restartPending (x : Nat) : (s.setFreeReads x).restartPending = s.restartPending := rfl
@[simp] theorem State.setFreeReads_corr (x : Nat) : (s.setFreeReads x).corr = s.corr := rfl
@[simp] theorem State.setFreeReads_check (x : Nat) : (s.setFreeReads x).check = s.check := rfl
@[simp] theorem State.setFreeReads_archive (x : Nat) : (s.setFreeReads x).archive = s.archive := rfl
@[simp] theorem State.setFreeReads_port (x : Nat) : (s.setFreeReads x).port = s.port := rfl
@[simp] theorem State.setFreeReads_freeReads (x : Nat) : (s.setFreeReads x).freeReads = x := rfl
@[simp] theorem State.setFreeReads_pending (x : Nat) : (s.setFreeReads x).pending = s.pending := rfl

@[simp] theorem State.setPending_phase (x : List Instr) : (s.setPending x).phase = s.phase := rfl
@[simp] theorem State.setPending_pins (x : List Instr) : (s.setPending x).pins = s.pins := rfl
@[simp] theorem State.setPending_store (x : List Instr) : (s.setPending x).store = s.store := rfl
@[simp] theorem State.setPending_setup (x : List Instr) : (s.setPending x).setup = s.setup := rfl
@[simp] theorem State.setPending_retention (x : List Instr) : (s.setPending x).retention = s.retention := rfl
@[simp] theorem State.setPending_tb (x : List Instr) : (s.setPending x).tb = s.tb := rfl
@[simp] theorem State.setPending_mark (x : List Instr) : (s.setPending x).mark = s.mark := rfl
@[simp] theorem State.setPending_line (x : List Instr) : (s.setPending x).line = s.line := rfl
@[simp] theorem State.setPending_member (x : List Instr) : (s.setPending x).member = s.member := rfl
@[simp] theorem State.setPending_table (x : List Instr) : (s.setPending x).table = s.table := rfl
@[simp] theorem State.setPending_raised (x : List Instr) : (s.setPending x).raised = s.raised := rfl
@[simp] theorem State.setPending_front (x : List Instr) : (s.setPending x).front = s.front := rfl
@[simp] theorem State.setPending_events (x : List Instr) : (s.setPending x).events = s.events := rfl
@[simp] theorem State.setPending_dec (x : List Instr) : (s.setPending x).dec = s.dec := rfl
@[simp] theorem State.setPending_restartPending (x : List Instr) : (s.setPending x).restartPending = s.restartPending := rfl
@[simp] theorem State.setPending_corr (x : List Instr) : (s.setPending x).corr = s.corr := rfl
@[simp] theorem State.setPending_check (x : List Instr) : (s.setPending x).check = s.check := rfl
@[simp] theorem State.setPending_archive (x : List Instr) : (s.setPending x).archive = s.archive := rfl
@[simp] theorem State.setPending_port (x : List Instr) : (s.setPending x).port = s.port := rfl
@[simp] theorem State.setPending_freeReads (x : List Instr) : (s.setPending x).freeReads = s.freeReads := rfl
@[simp] theorem State.setPending_pending (x : List Instr) : (s.setPending x).pending = x := rfl

@[simp] theorem mapAll_get {α β : Type} {n : Nat} (v : Vector α n) (g : α → β) (i : Fin n) : (mapAll v g)[i] = g v[i] := by
  simp [mapAll]

@[simp] theorem mapAllIdx_get {α β : Type} {n : Nat} (v : Vector α n) (g : Fin n → α → β) (i : Fin n) :
    (mapAllIdx v g)[i] = g i v[i] := by
  simp [mapAllIdx]

@[simp] theorem setAt_get_same {α : Type} {n : Nat} (v : Vector α n) (i : Fin n) (x : α) : (setAt v i x)[i] = x := by
  simp [setAt]

theorem setAt_get_other {α : Type} {n : Nat} (v : Vector α n) (i j : Fin n) (x : α) (h : j ≠ i) : (setAt v i x)[j] = v[j] := by
  have : (i : Nat) ≠ (j : Nat) := fun e => h (Fin.ext e.symm)
  simp [setAt, this]

end Sys2Proof.Machine
end

