-- ==== Sys2Proof/Laws/Frames.lean ====
section
/-! SUPPORT. What each shared operation leaves alone: for each, one lemma per field of State that it does not touch. -/

namespace Sys2Proof.Machine

variable (s : State)

/-! ### reach -/

@[simp] theorem State.reach_phase (tick : Nat) : (s.reach tick).phase = s.phase := (rfl)
@[simp] theorem State.reach_pins (tick : Nat) : (s.reach tick).pins = s.pins := (rfl)
@[simp] theorem State.reach_store (tick : Nat) : (s.reach tick).store = s.store := (rfl)
@[simp] theorem State.reach_setup (tick : Nat) : (s.reach tick).setup = s.setup := (rfl)
@[simp] theorem State.reach_retention (tick : Nat) : (s.reach tick).retention = s.retention := (rfl)
@[simp] theorem State.reach_mark (tick : Nat) : (s.reach tick).mark = s.mark := (rfl)
@[simp] theorem State.reach_line (tick : Nat) : (s.reach tick).line = s.line := (rfl)
@[simp] theorem State.reach_member (tick : Nat) : (s.reach tick).member = s.member := (rfl)
@[simp] theorem State.reach_table (tick : Nat) : (s.reach tick).table = s.table := (rfl)
@[simp] theorem State.reach_raised (tick : Nat) : (s.reach tick).raised = s.raised := (rfl)
@[simp] theorem State.reach_front (tick : Nat) : (s.reach tick).front = s.front := (rfl)
@[simp] theorem State.reach_events (tick : Nat) : (s.reach tick).events = s.events := (rfl)
@[simp] theorem State.reach_dec (tick : Nat) : (s.reach tick).dec = s.dec := (rfl)
@[simp] theorem State.reach_restartPending (tick : Nat) : (s.reach tick).restartPending = s.restartPending := (rfl)
@[simp] theorem State.reach_corr (tick : Nat) : (s.reach tick).corr = s.corr := (rfl)
@[simp] theorem State.reach_check (tick : Nat) : (s.reach tick).check = s.check := (rfl)
@[simp] theorem State.reach_archive (tick : Nat) : (s.reach tick).archive = s.archive := (rfl)
@[simp] theorem State.reach_port (tick : Nat) : (s.reach tick).port = s.port := (rfl)
@[simp] theorem State.reach_freeReads (tick : Nat) : (s.reach tick).freeReads = s.freeReads := (rfl)
@[simp] theorem State.reach_pending (tick : Nat) : (s.reach tick).pending = s.pending := (rfl)

/-! ### mapCell -/

@[simp] theorem State.mapCell_phase (k : Station) (g : Cell → Cell) : (s.mapCell k g).phase = s.phase := (rfl)
@[simp] theorem State.mapCell_pins (k : Station) (g : Cell → Cell) : (s.mapCell k g).pins = s.pins := (rfl)
@[simp] theorem State.mapCell_store (k : Station) (g : Cell → Cell) : (s.mapCell k g).store = s.store := (rfl)
@[simp] theorem State.mapCell_setup (k : Station) (g : Cell → Cell) : (s.mapCell k g).setup = s.setup := (rfl)
@[simp] theorem State.mapCell_retention (k : Station) (g : Cell → Cell) : (s.mapCell k g).retention = s.retention := (rfl)
@[simp] theorem State.mapCell_tb (k : Station) (g : Cell → Cell) : (s.mapCell k g).tb = s.tb := (rfl)
@[simp] theorem State.mapCell_mark (k : Station) (g : Cell → Cell) : (s.mapCell k g).mark = s.mark := (rfl)
@[simp] theorem State.mapCell_line (k : Station) (g : Cell → Cell) : (s.mapCell k g).line = s.line := (rfl)
@[simp] theorem State.mapCell_member (k : Station) (g : Cell → Cell) : (s.mapCell k g).member = s.member := (rfl)
@[simp] theorem State.mapCell_raised (k : Station) (g : Cell → Cell) : (s.mapCell k g).raised = s.raised := (rfl)
@[simp] theorem State.mapCell_front (k : Station) (g : Cell → Cell) : (s.mapCell k g).front = s.front := (rfl)
@[simp] theorem State.mapCell_events (k : Station) (g : Cell → Cell) : (s.mapCell k g).events = s.events := (rfl)
@[simp] theorem State.mapCell_dec (k : Station) (g : Cell → Cell) : (s.mapCell k g).dec = s.dec := (rfl)
@[simp] theorem State.mapCell_restartPending (k : Station) (g : Cell → Cell) : (s.mapCell k g).restartPending = s.restartPending := (rfl)
@[simp] theorem State.mapCell_corr (k : Station) (g : Cell → Cell) : (s.mapCell k g).corr = s.corr := (rfl)
@[simp] theorem State.mapCell_check (k : Station) (g : Cell → Cell) : (s.mapCell k g).check = s.check := (rfl)
@[simp] theorem State.mapCell_archive (k : Station) (g : Cell → Cell) : (s.mapCell k g).archive = s.archive := (rfl)
@[simp] theorem State.mapCell_port (k : Station) (g : Cell → Cell) : (s.mapCell k g).port = s.port := (rfl)
@[simp] theorem State.mapCell_freeReads (k : Station) (g : Cell → Cell) : (s.mapCell k g).freeReads = s.freeReads := (rfl)
@[simp] theorem State.mapCell_pending (k : Station) (g : Cell → Cell) : (s.mapCell k g).pending = s.pending := (rfl)

/-! ### rise -/

@[simp] theorem State.rise_phase (c : ConditionSet) : (s.rise c).phase = s.phase := (rfl)
@[simp] theorem State.rise_pins (c : ConditionSet) : (s.rise c).pins = s.pins := (rfl)
@[simp] theorem State.rise_store (c : ConditionSet) : (s.rise c).store = s.store := (rfl)
@[simp] theorem State.rise_setup (c : ConditionSet) : (s.rise c).setup = s.setup := (rfl)
@[simp] theorem State.rise_retention (c : ConditionSet) : (s.rise c).retention = s.retention := (rfl)
@[simp] theorem State.rise_tb (c : ConditionSet) : (s.rise c).tb = s.tb := (rfl)
@[simp] theorem State.rise_mark (c : ConditionSet) : (s.rise c).mark = s.mark := (rfl)
@[simp] theorem State.rise_line (c : ConditionSet) : (s.rise c).line = s.line := (rfl)
@[simp] theorem State.rise_member (c : ConditionSet) : (s.rise c).member = s.member := (rfl)
@[simp] theorem State.rise_table (c : ConditionSet) : (s.rise c).table = s.table := (rfl)
@[simp] theorem State.rise_front (c : ConditionSet) : (s.rise c).front = s.front := (rfl)
@[simp] theorem State.rise_events (c : ConditionSet) : (s.rise c).events = s.events := (rfl)
@[simp] theorem State.rise_dec (c : ConditionSet) : (s.rise c).dec = s.dec := (rfl)
@[simp] theorem State.rise_restartPending (c : ConditionSet) : (s.rise c).restartPending = s.restartPending := (rfl)
@[simp] theorem State.rise_corr (c : ConditionSet) : (s.rise c).corr = s.corr := (rfl)
@[simp] theorem State.rise_check (c : ConditionSet) : (s.rise c).check = s.check := (rfl)
@[simp] theorem State.rise_archive (c : ConditionSet) : (s.rise c).archive = s.archive := (rfl)
@[simp] theorem State.rise_freeReads (c : ConditionSet) : (s.rise c).freeReads = s.freeReads := (rfl)
@[simp] theorem State.rise_pending (c : ConditionSet) : (s.rise c).pending = s.pending := (rfl)

/-! ### latchFrom -/

@[simp] theorem State.latchFrom_phase (before : State) : (s.latchFrom before).phase = s.phase := (rfl)
@[simp] theorem State.latchFrom_pins (before : State) : (s.latchFrom before).pins = s.pins := (rfl)
@[simp] theorem State.latchFrom_store (before : State) : (s.latchFrom before).store = s.store := (rfl)
@[simp] theorem State.latchFrom_setup (before : State) : (s.latchFrom before).setup = s.setup := (rfl)
@[simp] theorem State.latchFrom_retention (before : State) : (s.latchFrom before).retention = s.retention := (rfl)
@[simp] theorem State.latchFrom_tb (before : State) : (s.latchFrom before).tb = s.tb := (rfl)
@[simp] theorem State.latchFrom_mark (before : State) : (s.latchFrom before).mark = s.mark := (rfl)
@[simp] theorem State.latchFrom_line (before : State) : (s.latchFrom before).line = s.line := (rfl)
@[simp] theorem State.latchFrom_member (before : State) : (s.latchFrom before).member = s.member := (rfl)
@[simp] theorem State.latchFrom_table (before : State) : (s.latchFrom before).table = s.table := (rfl)
@[simp] theorem State.latchFrom_front (before : State) : (s.latchFrom before).front = s.front := (rfl)
@[simp] theorem State.latchFrom_events (before : State) : (s.latchFrom before).events = s.events := (rfl)
@[simp] theorem State.latchFrom_dec (before : State) : (s.latchFrom before).dec = s.dec := (rfl)
@[simp] theorem State.latchFrom_restartPending (before : State) : (s.latchFrom before).restartPending = s.restartPending := (rfl)
@[simp] theorem State.latchFrom_corr (before : State) : (s.latchFrom before).corr = s.corr := (rfl)
@[simp] theorem State.latchFrom_check (before : State) : (s.latchFrom before).check = s.check := (rfl)
@[simp] theorem State.latchFrom_archive (before : State) : (s.latchFrom before).archive = s.archive := (rfl)
@[simp] theorem State.latchFrom_freeReads (before : State) : (s.latchFrom before).freeReads = s.freeReads := (rfl)
@[simp] theorem State.latchFrom_pending (before : State) : (s.latchFrom before).pending = s.pending := (rfl)

/-! ### raise -/

@[simp] theorem State.raise_phase (c : Condition) : (s.raise c).phase = s.phase := (rfl)
@[simp] theorem State.raise_pins (c : Condition) : (s.raise c).pins = s.pins := (rfl)
@[simp] theorem State.raise_store (c : Condition) : (s.raise c).store = s.store := (rfl)
@[simp] theorem State.raise_setup (c : Condition) : (s.raise c).setup = s.setup := (rfl)
@[simp] theorem State.raise_retention (c : Condition) : (s.raise c).retention = s.retention := (rfl)
@[simp] theorem State.raise_tb (c : Condition) : (s.raise c).tb = s.tb := (rfl)
@[simp] theorem State.raise_mark (c : Condition) : (s.raise c).mark = s.mark := (rfl)
@[simp] theorem State.raise_line (c : Condition) : (s.raise c).line = s.line := (rfl)
@[simp] theorem State.raise_member (c : Condition) : (s.raise c).member = s.member := (rfl)
@[simp] theorem State.raise_table (c : Condition) : (s.raise c).table = s.table := (rfl)
@[simp] theorem State.raise_front (c : Condition) : (s.raise c).front = s.front := (rfl)
@[simp] theorem State.raise_events (c : Condition) : (s.raise c).events = s.events := (rfl)
@[simp] theorem State.raise_dec (c : Condition) : (s.raise c).dec = s.dec := (rfl)
@[simp] theorem State.raise_restartPending (c : Condition) : (s.raise c).restartPending = s.restartPending := (rfl)
@[simp] theorem State.raise_corr (c : Condition) : (s.raise c).corr = s.corr := (rfl)
@[simp] theorem State.raise_check (c : Condition) : (s.raise c).check = s.check := (rfl)
@[simp] theorem State.raise_archive (c : Condition) : (s.raise c).archive = s.archive := (rfl)
@[simp] theorem State.raise_freeReads (c : Condition) : (s.raise c).freeReads = s.freeReads := (rfl)
@[simp] theorem State.raise_pending (c : Condition) : (s.raise c).pending = s.pending := (rfl)

/-! ### raiseIf -/

@[simp] theorem State.raiseIf_phase (b : Bool) (c : Condition) : (s.raiseIf b c).phase = s.phase := (rfl)
@[simp] theorem State.raiseIf_pins (b : Bool) (c : Condition) : (s.raiseIf b c).pins = s.pins := (rfl)
@[simp] theorem State.raiseIf_store (b : Bool) (c : Condition) : (s.raiseIf b c).store = s.store := (rfl)
@[simp] theorem State.raiseIf_setup (b : Bool) (c : Condition) : (s.raiseIf b c).setup = s.setup := (rfl)
@[simp] theorem State.raiseIf_retention (b : Bool) (c : Condition) : (s.raiseIf b c).retention = s.retention := (rfl)
@[simp] theorem State.raiseIf_tb (b : Bool) (c : Condition) : (s.raiseIf b c).tb = s.tb := (rfl)
@[simp] theorem State.raiseIf_mark (b : Bool) (c : Condition) : (s.raiseIf b c).mark = s.mark := (rfl)
@[simp] theorem State.raiseIf_line (b : Bool) (c : Condition) : (s.raiseIf b c).line = s.line := (rfl)
@[simp] theorem State.raiseIf_member (b : Bool) (c : Condition) : (s.raiseIf b c).member = s.member := (rfl)
@[simp] theorem State.raiseIf_table (b : Bool) (c : Condition) : (s.raiseIf b c).table = s.table := (rfl)
@[simp] theorem State.raiseIf_front (b : Bool) (c : Condition) : (s.raiseIf b c).front = s.front := (rfl)
@[simp] theorem State.raiseIf_events (b : Bool) (c : Condition) : (s.raiseIf b c).events = s.events := (rfl)
@[simp] theorem State.raiseIf_dec (b : Bool) (c : Condition) : (s.raiseIf b c).dec = s.dec := (rfl)
@[simp] theorem State.raiseIf_restartPending (b : Bool) (c : Condition) : (s.raiseIf b c).restartPending = s.restartPending := (rfl)
@[simp] theorem State.raiseIf_corr (b : Bool) (c : Condition) : (s.raiseIf b c).corr = s.corr := (rfl)
@[simp] theorem State.raiseIf_check (b : Bool) (c : Condition) : (s.raiseIf b c).check = s.check := (rfl)
@[simp] theorem State.raiseIf_archive (b : Bool) (c : Condition) : (s.raiseIf b c).archive = s.archive := (rfl)
@[simp] theorem State.raiseIf_freeReads (b : Bool) (c : Condition) : (s.raiseIf b c).freeReads = s.freeReads := (rfl)
@[simp] theorem State.raiseIf_pending (b : Bool) (c : Condition) : (s.raiseIf b c).pending = s.pending := (rfl)

/-! ### abortTransmission -/

@[simp] theorem State.abortTransmission_phase : (s.abortTransmission).phase = s.phase := by unfold State.abortTransmission; split <;> simp
@[simp] theorem State.abortTransmission_pins : (s.abortTransmission).pins = s.pins := by unfold State.abortTransmission; split <;> simp
@[simp] theorem State.abortTransmission_store : (s.abortTransmission).store = s.store := by unfold State.abortTransmission; split <;> simp
@[simp] theorem State.abortTransmission_setup : (s.abortTransmission).setup = s.setup := by unfold State.abortTransmission; split <;> simp
@[simp] theorem State.abortTransmission_retention : (s.abortTransmission).retention = s.retention := by unfold State.abortTransmission; split <;> simp
@[simp] theorem State.abortTransmission_tb : (s.abortTransmission).tb = s.tb := by unfold State.abortTransmission; split <;> simp
@[simp] theorem State.abortTransmission_mark : (s.abortTransmission).mark = s.mark := by unfold State.abortTransmission; split <;> simp
@[simp] theorem State.abortTransmission_member : (s.abortTransmission).member = s.member := by unfold State.abortTransmission; split <;> simp
@[simp] theorem State.abortTransmission_raised : (s.abortTransmission).raised = s.raised := by unfold State.abortTransmission; split <;> simp
@[simp] theorem State.abortTransmission_front : (s.abortTransmission).front = s.front := by unfold State.abortTransmission; split <;> simp
@[simp] theorem State.abortTransmission_events : (s.abortTransmission).events = s.events := by unfold State.abortTransmission; split <;> simp
@[simp] theorem State.abortTransmission_dec : (s.abortTransmission).dec = s.dec := by unfold State.abortTransmission; split <;> simp
@[simp] theorem State.abortTransmission_restartPending : (s.abortTransmission).restartPending = s.restartPending := by unfold State.abortTransmission; split <;> simp
@[simp] theorem State.abortTransmission_corr : (s.abortTransmission).corr = s.corr := by unfold State.abortTransmission; split <;> simp
@[simp] theorem State.abortTransmission_check : (s.abortTransmission).check = s.check := by unfold State.abortTransmission; split <;> simp
@[simp] theorem State.abortTransmission_archive : (s.abortTransmission).archive = s.archive := by unfold State.abortTransmission; split <;> simp
@[simp] theorem State.abortTransmission_port : (s.abortTransmission).port = s.port := by unfold State.abortTransmission; split <;> simp
@[simp] theorem State.abortTransmission_freeReads : (s.abortTransmission).freeReads = s.freeReads := by unfold State.abortTransmission; split <;> simp
@[simp] theorem State.abortTransmission_pending : (s.abortTransmission).pending = s.pending := by unfold State.abortTransmission; split <;> simp

/-! ### leaveMember -/

@[simp] theorem State.leaveMember_phase : (s.leaveMember).phase = s.phase := by simp [State.leaveMember]
@[simp] theorem State.leaveMember_pins : (s.leaveMember).pins = s.pins := by simp [State.leaveMember]
@[simp] theorem State.leaveMember_store : (s.leaveMember).store = s.store := by simp [State.leaveMember]
@[simp] theorem State.leaveMember_setup : (s.leaveMember).setup = s.setup := by simp [State.leaveMember]
@[simp] theorem State.leaveMember_retention : (s.leaveMember).retention = s.retention := by simp [State.leaveMember]
@[simp] theorem State.leaveMember_tb : (s.leaveMember).tb = s.tb := by simp [State.leaveMember]
@[simp] theorem State.leaveMember_member : (s.leaveMember).member = s.member := by simp [State.leaveMember]
@[simp] theorem State.leaveMember_raised : (s.leaveMember).raised = s.raised := by simp [State.leaveMember]
@[simp] theorem State.leaveMember_front : (s.leaveMember).front = s.front := by simp [State.leaveMember]
@[simp] theorem State.leaveMember_events : (s.leaveMember).events = s.events := by simp [State.leaveMember]
@[simp] theorem State.leaveMember_dec : (s.leaveMember).dec = s.dec := by simp [State.leaveMember]
@[simp] theorem State.leaveMember_restartPending : (s.leaveMember).restartPending = s.restartPending := by simp [State.leaveMember]
@[simp] theorem State.leaveMember_corr : (s.leaveMember).corr = s.corr := by simp [State.leaveMember]
@[simp] theorem State.leaveMember_check : (s.leaveMember).check = s.check := by simp [State.leaveMember]
@[simp] theorem State.leaveMember_archive : (s.leaveMember).archive = s.archive := by simp [State.leaveMember]
@[simp] theorem State.leaveMember_port : (s.leaveMember).port = s.port := by simp [State.leaveMember]
@[simp] theorem State.leaveMember_freeReads : (s.leaveMember).freeReads = s.freeReads := by simp [State.leaveMember]
@[simp] theorem State.leaveMember_pending : (s.leaveMember).pending = s.pending := by simp [State.leaveMember]

/-! ### adoptNumber -/

@[simp] theorem State.adoptNumber_phase (k : Station) : (s.adoptNumber k).phase = s.phase := by unfold State.adoptNumber; split <;> simp
@[simp] theorem State.adoptNumber_pins (k : Station) : (s.adoptNumber k).pins = s.pins := by unfold State.adoptNumber; split <;> simp
@[simp] theorem State.adoptNumber_store (k : Station) : (s.adoptNumber k).store = s.store := by unfold State.adoptNumber; split <;> simp
@[simp] theorem State.adoptNumber_setup (k : Station) : (s.adoptNumber k).setup = s.setup := by unfold State.adoptNumber; split <;> simp
@[simp] theorem State.adoptNumber_retention (k : Station) : (s.adoptNumber k).retention = s.retention := by unfold State.adoptNumber; split <;> simp
@[simp] theorem State.adoptNumber_tb (k : Station) : (s.adoptNumber k).tb = s.tb := by unfold State.adoptNumber; split <;> simp
@[simp] theorem State.adoptNumber_raised (k : Station) : (s.adoptNumber k).raised = s.raised := by unfold State.adoptNumber; split <;> simp
@[simp] theorem State.adoptNumber_front (k : Station) : (s.adoptNumber k).front = s.front := by unfold State.adoptNumber; split <;> simp
@[simp] theorem State.adoptNumber_events (k : Station) : (s.adoptNumber k).events = s.events := by unfold State.adoptNumber; split <;> simp
@[simp] theorem State.adoptNumber_dec (k : Station) : (s.adoptNumber k).dec = s.dec := by unfold State.adoptNumber; split <;> simp
@[simp] theorem State.adoptNumber_restartPending (k : Station) : (s.adoptNumber k).restartPending = s.restartPending := by unfold State.adoptNumber; split <;> simp
@[simp] theorem State.adoptNumber_corr (k : Station) : (s.adoptNumber k).corr = s.corr := by unfold State.adoptNumber; split <;> simp
@[simp] theorem State.adoptNumber_check (k : Station) : (s.adoptNumber k).check = s.check := by unfold State.adoptNumber; split <;> simp
@[simp] theorem State.adoptNumber_archive (k : Station) : (s.adoptNumber k).archive = s.archive := by unfold State.adoptNumber; split <;> simp
@[simp] theorem State.adoptNumber_port (k : Station) : (s.adoptNumber k).port = s.port := by unfold State.adoptNumber; split <;> simp
@[simp] theorem State.adoptNumber_freeReads (k : Station) : (s.adoptNumber k).freeReads = s.freeReads := by unfold State.adoptNumber; split <;> simp
@[simp] theorem State.adoptNumber_pending (k : Station) : (s.adoptNumber k).pending = s.pending := by unfold State.adoptNumber; split <;> simp

/-! ### wordComplete -/

@[simp] theorem State.wordComplete_phase (number complement : BitVec 4) (stop : Bool) : (s.wordComplete number complement stop).phase = s.phase := by
  unfold State.wordComplete
  dsimp only
  repeat' split
  all_goals simp
@[simp] theorem State.wordComplete_pins (number complement : BitVec 4) (stop : Bool) : (s.wordComplete number complement stop).pins = s.pins := by
  unfold State.wordComplete
  dsimp only
  repeat' split
  all_goals simp
@[simp] theorem State.wordComplete_store (number complement : BitVec 4) (stop : Bool) : (s.wordComplete number complement stop).store = s.store := by
  unfold State.wordComplete
  dsimp only
  repeat' split
  all_goals simp
@[simp] theorem State.wordComplete_setup (number complement : BitVec 4) (stop : Bool) : (s.wordComplete number complement stop).setup = s.setup := by
  unfold State.wordComplete
  dsimp only
  repeat' split
  all_goals simp
@[simp] theorem State.wordComplete_retention (number complement : BitVec 4) (stop : Bool) : (s.wordComplete number complement stop).retention = s.retention := by
  unfold State.wordComplete
  dsimp only
  repeat' split
  all_goals simp
@[simp] theorem State.wordComplete_tb (number complement : BitVec 4) (stop : Bool) : (s.wordComplete number complement stop).tb = s.tb := by
  unfold State.wordComplete
  dsimp only
  repeat' split
  all_goals simp
@[simp] theorem State.wordComplete_front (number complement : BitVec 4) (stop : Bool) : (s.wordComplete number complement stop).front = s.front := by
  unfold State.wordComplete
  dsimp only
  repeat' split
  all_goals simp
@[simp] theorem State.wordComplete_events (number complement : BitVec 4) (stop : Bool) : (s.wordComplete number complement stop).events = s.events := by
  unfold State.wordComplete
  dsimp only
  repeat' split
  all_goals simp
@[simp] theorem State.wordComplete_dec (number complement : BitVec 4) (stop : Bool) : (s.wordComplete number complement stop).dec = s.dec := by
  unfold State.wordComplete
  dsimp only
  repeat' split
  all_goals simp
@[simp] theorem State.wordComplete_restartPending (number complement : BitVec 4) (stop : Bool) : (s.wordComplete number complement stop).restartPending = s.restartPending := by
  unfold State.wordComplete
  dsimp only
  repeat' split
  all_goals simp
@[simp] theorem State.wordComplete_corr (number complement : BitVec 4) (stop : Bool) : (s.wordComplete number complement stop).corr = s.corr := by
  unfold State.wordComplete
  dsimp only
  repeat' split
  all_goals simp
@[simp] theorem State.wordComplete_check (number complement : BitVec 4) (stop : Bool) : (s.wordComplete number complement stop).check = s.check := by
  unfold State.wordComplete
  dsimp only
  repeat' split
  all_goals simp
@[simp] theorem State.wordComplete_archive (number complement : BitVec 4) (stop : Bool) : (s.wordComplete number complement stop).archive = s.archive := by
  unfold State.wordComplete
  dsimp only
  repeat' split
  all_goals simp
@[simp] theorem State.wordComplete_freeReads (number complement : BitVec 4) (stop : Bool) : (s.wordComplete number complement stop).freeReads = s.freeReads := by
  unfold State.wordComplete
  dsimp only
  repeat' split
  all_goals simp
@[simp] theorem State.wordComplete_pending (number complement : BitVec 4) (stop : Bool) : (s.wordComplete number complement stop).pending = s.pending := by
  unfold State.wordComplete
  dsimp only
  repeat' split
  all_goals simp

/-! ### readWord -/

@[simp] theorem State.readWord_phase (rise : Int) (cells : List Bool) : (s.readWord rise cells).phase = s.phase := by
  unfold State.readWord
  dsimp only
  split <;> simp
@[simp] theorem State.readWord_pins (rise : Int) (cells : List Bool) : (s.readWord rise cells).pins = s.pins := by
  unfold State.readWord
  dsimp only
  split <;> simp
@[simp] theorem State.readWord_store (rise : Int) (cells : List Bool) : (s.readWord rise cells).store = s.store := by
  unfold State.readWord
  dsimp only
  split <;> simp
@[simp] theorem State.readWord_setup (rise : Int) (cells : List Bool) : (s.readWord rise cells).setup = s.setup := by
  unfold State.readWord
  dsimp only
  split <;> simp
@[simp] theorem State.readWord_retention (rise : Int) (cells : List Bool) : (s.readWord rise cells).retention = s.retention := by
  unfold State.readWord
  dsimp only
  split <;> simp
@[simp] theorem State.readWord_front (rise : Int) (cells : List Bool) : (s.readWord rise cells).front = s.front := by
  unfold State.readWord
  dsimp only
  split <;> simp
@[simp] theorem State.readWord_events (rise : Int) (cells : List Bool) : (s.readWord rise cells).events = s.events := by
  unfold State.readWord
  dsimp only
  split <;> simp
@[simp] theorem State.readWord_dec (rise : Int) (cells : List Bool) : (s.readWord rise cells).dec = s.dec := by
  unfold State.readWord
  dsimp only
  split <;> simp
@[simp] theorem State.readWord_restartPending (rise : Int) (cells : List Bool) : (s.readWord rise cells).restartPending = s.restartPending := by
  unfold State.readWord
  dsimp only
  split <;> simp
@[simp] theorem State.readWord_corr (rise : Int) (cells : List Bool) : (s.readWord rise cells).corr = s.corr := by
  unfold State.readWord
  dsimp only
  split <;> simp
@[simp] theorem State.readWord_check (rise : Int) (cells : List Bool) : (s.readWord rise cells).check = s.check := by
  unfold State.readWord
  dsimp only
  split <;> simp
@[simp] theorem State.readWord_archive (rise : Int) (cells : List Bool) : (s.readWord rise cells).archive = s.archive := by
  unfold State.readWord
  dsimp only
  split <;> simp
@[simp] theorem State.readWord_freeReads (rise : Int) (cells : List Bool) : (s.readWord rise cells).freeReads = s.freeReads := by
  unfold State.readWord
  dsimp only
  split <;> simp
@[simp] theorem State.readWord_pending (rise : Int) (cells : List Bool) : (s.readWord rise cells).pending = s.pending := by
  unfold State.readWord
  dsimp only
  split <;> simp

/-! ### archiveClose -/

@[simp] theorem State.archiveClose_phase (r : Row) (own : Option Station) (edge : Bool) : (s.archiveClose r own edge).phase = s.phase := by unfold State.archiveClose; dsimp only; split <;> simp [State.raise]
@[simp] theorem State.archiveClose_pins (r : Row) (own : Option Station) (edge : Bool) : (s.archiveClose r own edge).pins = s.pins := by unfold State.archiveClose; dsimp only; split <;> simp [State.raise]
@[simp] theorem State.archiveClose_store (r : Row) (own : Option Station) (edge : Bool) : (s.archiveClose r own edge).store = s.store := by unfold State.archiveClose; dsimp only; split <;> simp [State.raise]
@[simp] theorem State.archiveClose_setup (r : Row) (own : Option Station) (edge : Bool) : (s.archiveClose r own edge).setup = s.setup := by unfold State.archiveClose; dsimp only; split <;> simp [State.raise]
@[simp] theorem State.archiveClose_tb (r : Row) (own : Option Station) (edge : Bool) : (s.archiveClose r own edge).tb = s.tb := by unfold State.archiveClose; dsimp only; split <;> simp [State.raise]
@[simp] theorem State.archiveClose_mark (r : Row) (own : Option Station) (edge : Bool) : (s.archiveClose r own edge).mark = s.mark := by unfold State.archiveClose; dsimp only; split <;> simp [State.raise]
@[simp] theorem State.archiveClose_line (r : Row) (own : Option Station) (edge : Bool) : (s.archiveClose r own edge).line = s.line := by unfold State.archiveClose; dsimp only; split <;> simp [State.raise]
@[simp] theorem State.archiveClose_member (r : Row) (own : Option Station) (edge : Bool) : (s.archiveClose r own edge).member = s.member := by unfold State.archiveClose; dsimp only; split <;> simp [State.raise]
@[simp] theorem State.archiveClose_table (r : Row) (own : Option Station) (edge : Bool) : (s.archiveClose r own edge).table = s.table := by unfold State.archiveClose; dsimp only; split <;> simp [State.raise]
@[simp] theorem State.archiveClose_front (r : Row) (own : Option Station) (edge : Bool) : (s.archiveClose r own edge).front = s.front := by unfold State.archiveClose; dsimp only; split <;> simp [State.raise]
@[simp] theorem State.archiveClose_events (r : Row) (own : Option Station) (edge : Bool) : (s.archiveClose r own edge).events = s.events := by unfold State.archiveClose; dsimp only; split <;> simp [State.raise]
@[simp] theorem State.archiveClose_dec (r : Row) (own : Option Station) (edge : Bool) : (s.archiveClose r own edge).dec = s.dec := by unfold State.archiveClose; dsimp only; split <;> simp [State.raise]
@[simp] theorem State.archiveClose_restartPending (r : Row) (own : Option Station) (edge : Bool) : (s.archiveClose r own edge).restartPending = s.restartPending := by unfold State.archiveClose; dsimp only; split <;> simp [State.raise]
@[simp] theorem State.archiveClose_corr (r : Row) (own : Option Station) (edge : Bool) : (s.archiveClose r own edge).corr = s.corr := by unfold State.archiveClose; dsimp only; split <;> simp [State.raise]
@[simp] theorem State.archiveClose_check (r : Row) (own : Option Station) (edge : Bool) : (s.archiveClose r own edge).check = s.check := by unfold State.archiveClose; dsimp only; split <;> simp [State.raise]
@[simp] theorem State.archiveClose_freeReads (r : Row) (own : Option Station) (edge : Bool) : (s.archiveClose r own edge).freeReads = s.freeReads := by unfold State.archiveClose; dsimp only; split <;> simp [State.raise]
@[simp] theorem State.archiveClose_pending (r : Row) (own : Option Station) (edge : Bool) : (s.archiveClose r own edge).pending = s.pending := by unfold State.archiveClose; dsimp only; split <;> simp [State.raise]

/-! ### closeBlocks -/

@[simp] theorem State.closeBlocks_phase (cut : Bool) (collected : TimeState) (r : Row) : (s.closeBlocks cut collected r).phase = s.phase := by unfold State.closeBlocks; dsimp only; split <;> simp [State.raiseIf]
@[simp] theorem State.closeBlocks_pins (cut : Bool) (collected : TimeState) (r : Row) : (s.closeBlocks cut collected r).pins = s.pins := by unfold State.closeBlocks; dsimp only; split <;> simp [State.raiseIf]
@[simp] theorem State.closeBlocks_store (cut : Bool) (collected : TimeState) (r : Row) : (s.closeBlocks cut collected r).store = s.store := by unfold State.closeBlocks; dsimp only; split <;> simp [State.raiseIf]
@[simp] theorem State.closeBlocks_setup (cut : Bool) (collected : TimeState) (r : Row) : (s.closeBlocks cut collected r).setup = s.setup := by unfold State.closeBlocks; dsimp only; split <;> simp [State.raiseIf]
@[simp] theorem State.closeBlocks_line (cut : Bool) (collected : TimeState) (r : Row) : (s.closeBlocks cut collected r).line = s.line := by unfold State.closeBlocks; dsimp only; split <;> simp [State.raiseIf]
@[simp] theorem State.closeBlocks_table (cut : Bool) (collected : TimeState) (r : Row) : (s.closeBlocks cut collected r).table = s.table := by unfold State.closeBlocks; dsimp only; split <;> simp [State.raiseIf]
@[simp] theorem State.closeBlocks_front (cut : Bool) (collected : TimeState) (r : Row) : (s.closeBlocks cut collected r).front = s.front := by unfold State.closeBlocks; dsimp only; split <;> simp [State.raiseIf]
@[simp] theorem State.closeBlocks_dec (cut : Bool) (collected : TimeState) (r : Row) : (s.closeBlocks cut collected r).dec = s.dec := by unfold State.closeBlocks; dsimp only; split <;> simp [State.raiseIf]
@[simp] theorem State.closeBlocks_restartPending (cut : Bool) (collected : TimeState) (r : Row) : (s.closeBlocks cut collected r).restartPending = s.restartPending := by unfold State.closeBlocks; dsimp only; split <;> simp [State.raiseIf]
@[simp] theorem State.closeBlocks_corr (cut : Bool) (collected : TimeState) (r : Row) : (s.closeBlocks cut collected r).corr = s.corr := by unfold State.closeBlocks; dsimp only; split <;> simp [State.raiseIf]
@[simp] theorem State.closeBlocks_freeReads (cut : Bool) (collected : TimeState) (r : Row) : (s.closeBlocks cut collected r).freeReads = s.freeReads := by unfold State.closeBlocks; dsimp only; split <;> simp [State.raiseIf]
@[simp] theorem State.closeBlocks_pending (cut : Bool) (collected : TimeState) (r : Row) : (s.closeBlocks cut collected r).pending = s.pending := by unfold State.closeBlocks; dsimp only; split <;> simp [State.raiseIf]

/-! ### closeRow -/

@[simp] theorem State.closeRow_phase (cut : Bool) (collected : TimeState) : (s.closeRow cut collected).phase = s.phase := by
  unfold State.closeRow
  split
  · rfl
  · dsimp only
    split <;> simp
@[simp] theorem State.closeRow_pins (cut : Bool) (collected : TimeState) : (s.closeRow cut collected).pins = s.pins := by
  unfold State.closeRow
  split
  · rfl
  · dsimp only
    split <;> simp
@[simp] theorem State.closeRow_store (cut : Bool) (collected : TimeState) : (s.closeRow cut collected).store = s.store := by
  unfold State.closeRow
  split
  · rfl
  · dsimp only
    split <;> simp
@[simp] theorem State.closeRow_setup (cut : Bool) (collected : TimeState) : (s.closeRow cut collected).setup = s.setup := by
  unfold State.closeRow
  split
  · rfl
  · dsimp only
    split <;> simp
@[simp] theorem State.closeRow_line (cut : Bool) (collected : TimeState) : (s.closeRow cut collected).line = s.line := by
  unfold State.closeRow
  split
  · rfl
  · dsimp only
    split <;> simp
@[simp] theorem State.closeRow_front (cut : Bool) (collected : TimeState) : (s.closeRow cut collected).front = s.front := by
  unfold State.closeRow
  split
  · rfl
  · dsimp only
    split <;> simp
@[simp] theorem State.closeRow_dec (cut : Bool) (collected : TimeState) : (s.closeRow cut collected).dec = s.dec := by
  unfold State.closeRow
  split
  · rfl
  · dsimp only
    split <;> simp
@[simp] theorem State.closeRow_restartPending (cut : Bool) (collected : TimeState) : (s.closeRow cut collected).restartPending = s.restartPending := by
  unfold State.closeRow
  split
  · rfl
  · dsimp only
    split <;> simp
@[simp] theorem State.closeRow_corr (cut : Bool) (collected : TimeState) : (s.closeRow cut collected).corr = s.corr := by
  unfold State.closeRow
  split
  · rfl
  · dsimp only
    split <;> simp
@[simp] theorem State.closeRow_freeReads (cut : Bool) (collected : TimeState) : (s.closeRow cut collected).freeReads = s.freeReads := by
  unfold State.closeRow
  split
  · rfl
  · dsimp only
    split <;> simp
@[simp] theorem State.closeRow_pending (cut : Bool) (collected : TimeState) : (s.closeRow cut collected).pending = s.pending := by
  unfold State.closeRow
  split
  · rfl
  · dsimp only
    split <;> simp

/-! ### markBoundary -/

@[simp] theorem State.markBoundary_phase (v : BoundaryView) : (s.markBoundary v).phase = s.phase := by unfold State.markBoundary; split <;> simp [State.raiseIf]
@[simp] theorem State.markBoundary_pins (v : BoundaryView) : (s.markBoundary v).pins = s.pins := by unfold State.markBoundary; split <;> simp [State.raiseIf]
@[simp] theorem State.markBoundary_store (v : BoundaryView) : (s.markBoundary v).store = s.store := by unfold State.markBoundary; split <;> simp [State.raiseIf]
@[simp] theorem State.markBoundary_setup (v : BoundaryView) : (s.markBoundary v).setup = s.setup := by unfold State.markBoundary; split <;> simp [State.raiseIf]
@[simp] theorem State.markBoundary_retention (v : BoundaryView) : (s.markBoundary v).retention = s.retention := by unfold State.markBoundary; split <;> simp [State.raiseIf]
@[simp] theorem State.markBoundary_tb (v : BoundaryView) : (s.markBoundary v).tb = s.tb := by unfold State.markBoundary; split <;> simp [State.raiseIf]
@[simp] theorem State.markBoundary_line (v : BoundaryView) : (s.markBoundary v).line = s.line := by unfold State.markBoundary; split <;> simp [State.raiseIf]
@[simp] theorem State.markBoundary_member (v : BoundaryView) : (s.markBoundary v).member = s.member := by unfold State.markBoundary; split <;> simp [State.raiseIf]
@[simp] theorem State.markBoundary_table (v : BoundaryView) : (s.markBoundary v).table = s.table := by unfold State.markBoundary; split <;> simp [State.raiseIf]
@[simp] theorem State.markBoundary_front (v : BoundaryView) : (s.markBoundary v).front = s.front := by unfold State.markBoundary; split <;> simp [State.raiseIf]
@[simp] theorem State.markBoundary_events (v : BoundaryView) : (s.markBoundary v).events = s.events := by unfold State.markBoundary; split <;> simp [State.raiseIf]
@[simp] theorem State.markBoundary_dec (v : BoundaryView) : (s.markBoundary v).dec = s.dec := by unfold State.markBoundary; split <;> simp [State.raiseIf]
@[simp] theorem State.markBoundary_restartPending (v : BoundaryView) : (s.markBoundary v).restartPending = s.restartPending := by unfold State.markBoundary; split <;> simp [State.raiseIf]
@[simp] theorem State.markBoundary_corr (v : BoundaryView) : (s.markBoundary v).corr = s.corr := by unfold State.markBoundary; split <;> simp [State.raiseIf]
@[simp] theorem State.markBoundary_check (v : BoundaryView) : (s.markBoundary v).check = s.check := by unfold State.markBoundary; split <;> simp [State.raiseIf]
@[simp] theorem State.markBoundary_archive (v : BoundaryView) : (s.markBoundary v).archive = s.archive := by unfold State.markBoundary; split <;> simp [State.raiseIf]
@[simp] theorem State.markBoundary_freeReads (v : BoundaryView) : (s.markBoundary v).freeReads = s.freeReads := by unfold State.markBoundary; split <;> simp [State.raiseIf]
@[simp] theorem State.markBoundary_pending (v : BoundaryView) : (s.markBoundary v).pending = s.pending := by unfold State.markBoundary; split <;> simp [State.raiseIf]

/-! ### lineBoundary -/

@[simp] theorem State.lineBoundary_phase (v : BoundaryView) (b : Bool) : (s.lineBoundary v b).phase = s.phase := by simp [State.lineBoundary]
@[simp] theorem State.lineBoundary_pins (v : BoundaryView) (b : Bool) : (s.lineBoundary v b).pins = s.pins := by simp [State.lineBoundary]
@[simp] theorem State.lineBoundary_store (v : BoundaryView) (b : Bool) : (s.lineBoundary v b).store = s.store := by simp [State.lineBoundary]
@[simp] theorem State.lineBoundary_setup (v : BoundaryView) (b : Bool) : (s.lineBoundary v b).setup = s.setup := by simp [State.lineBoundary]
@[simp] theorem State.lineBoundary_retention (v : BoundaryView) (b : Bool) : (s.lineBoundary v b).retention = s.retention := by simp [State.lineBoundary]
@[simp] theorem State.lineBoundary_tb (v : BoundaryView) (b : Bool) : (s.lineBoundary v b).tb = s.tb := by simp [State.lineBoundary]
@[simp] theorem State.lineBoundary_mark (v : BoundaryView) (b : Bool) : (s.lineBoundary v b).mark = s.mark := by simp [State.lineBoundary]
@[simp] theorem State.lineBoundary_table (v : BoundaryView) (b : Bool) : (s.lineBoundary v b).table = s.table := by simp [State.lineBoundary]
@[simp] theorem State.lineBoundary_raised (v : BoundaryView) (b : Bool) : (s.lineBoundary v b).raised = s.raised := by simp [State.lineBoundary]
@[simp] theorem State.lineBoundary_front (v : BoundaryView) (b : Bool) : (s.lineBoundary v b).front = s.front := by simp [State.lineBoundary]
@[simp] theorem State.lineBoundary_dec (v : BoundaryView) (b : Bool) : (s.lineBoundary v b).dec = s.dec := by simp [State.lineBoundary]
@[simp] theorem State.lineBoundary_restartPending (v : BoundaryView) (b : Bool) : (s.lineBoundary v b).restartPending = s.restartPending := by simp [State.lineBoundary]
@[simp] theorem State.lineBoundary_corr (v : BoundaryView) (b : Bool) : (s.lineBoundary v b).corr = s.corr := by simp [State.lineBoundary]
@[simp] theorem State.lineBoundary_check (v : BoundaryView) (b : Bool) : (s.lineBoundary v b).check = s.check := by simp [State.lineBoundary]
@[simp] theorem State.lineBoundary_archive (v : BoundaryView) (b : Bool) : (s.lineBoundary v b).archive = s.archive := by simp [State.lineBoundary]
@[simp] theorem State.lineBoundary_port (v : BoundaryView) (b : Bool) : (s.lineBoundary v b).port = s.port := by simp [State.lineBoundary]
@[simp] theorem State.lineBoundary_freeReads (v : BoundaryView) (b : Bool) : (s.lineBoundary v b).freeReads = s.freeReads := by simp [State.lineBoundary]
@[simp] theorem State.lineBoundary_pending (v : BoundaryView) (b : Bool) : (s.lineBoundary v b).pending = s.pending := by simp [State.lineBoundary]

/-! ### openRow -/

@[simp] theorem State.openRow_phase (v : BoundaryView) : (s.openRow v).phase = s.phase := by simp [State.openRow]
@[simp] theorem State.openRow_pins (v : BoundaryView) : (s.openRow v).pins = s.pins := by simp [State.openRow]
@[simp] theorem State.openRow_store (v : BoundaryView) : (s.openRow v).store = s.store := by simp [State.openRow]
@[simp] theorem State.openRow_setup (v : BoundaryView) : (s.openRow v).setup = s.setup := by simp [State.openRow]
@[simp] theorem State.openRow_retention (v : BoundaryView) : (s.openRow v).retention = s.retention := by simp [State.openRow]
@[simp] theorem State.openRow_tb (v : BoundaryView) : (s.openRow v).tb = s.tb := by simp [State.openRow]
@[simp] theorem State.openRow_mark (v : BoundaryView) : (s.openRow v).mark = s.mark := by simp [State.openRow]
@[simp] theorem State.openRow_line (v : BoundaryView) : (s.openRow v).line = s.line := by simp [State.openRow]
@[simp] theorem State.openRow_member (v : BoundaryView) : (s.openRow v).member = s.member := by simp [State.openRow]
@[simp] theorem State.openRow_raised (v : BoundaryView) : (s.openRow v).raised = s.raised := by simp [State.openRow]
@[simp] theorem State.openRow_front (v : BoundaryView) : (s.openRow v).front = s.front := by simp [State.openRow]
@[simp] theorem State.openRow_events (v : BoundaryView) : (s.openRow v).events = s.events := by simp [State.openRow]
@[simp] theorem State.openRow_dec (v : BoundaryView) : (s.openRow v).dec = s.dec := by simp [State.openRow]
@[simp] theorem State.openRow_restartPending (v : BoundaryView) : (s.openRow v).restartPending = s.restartPending := by simp [State.openRow]
@[simp] theorem State.openRow_corr (v : BoundaryView) : (s.openRow v).corr = s.corr := by simp [State.openRow]
@[simp] theorem State.openRow_check (v : BoundaryView) : (s.openRow v).check = s.check := by simp [State.openRow]
@[simp] theorem State.openRow_archive (v : BoundaryView) : (s.openRow v).archive = s.archive := by simp [State.openRow]
@[simp] theorem State.openRow_port (v : BoundaryView) : (s.openRow v).port = s.port := by simp [State.openRow]
@[simp] theorem State.openRow_freeReads (v : BoundaryView) : (s.openRow v).freeReads = s.freeReads := by simp [State.openRow]
@[simp] theorem State.openRow_pending (v : BoundaryView) : (s.openRow v).pending = s.pending := by simp [State.openRow]

/-! ### channelBoundary -/

@[simp] theorem State.channelBoundary_phase (v : BoundaryView) : (s.channelBoundary v).phase = s.phase := by simp [State.channelBoundary]
@[simp] theorem State.channelBoundary_pins (v : BoundaryView) : (s.channelBoundary v).pins = s.pins := by simp [State.channelBoundary]
@[simp] theorem State.channelBoundary_store (v : BoundaryView) : (s.channelBoundary v).store = s.store := by simp [State.channelBoundary]
@[simp] theorem State.channelBoundary_setup (v : BoundaryView) : (s.channelBoundary v).setup = s.setup := by simp [State.channelBoundary]
@[simp] theorem State.channelBoundary_retention (v : BoundaryView) : (s.channelBoundary v).retention = s.retention := by simp [State.channelBoundary]
@[simp] theorem State.channelBoundary_tb (v : BoundaryView) : (s.channelBoundary v).tb = s.tb := by simp [State.channelBoundary]
@[simp] theorem State.channelBoundary_mark (v : BoundaryView) : (s.channelBoundary v).mark = s.mark := by simp [State.channelBoundary]
@[simp] theorem State.channelBoundary_line (v : BoundaryView) : (s.channelBoundary v).line = s.line := by simp [State.channelBoundary]
@[simp] theorem State.channelBoundary_member (v : BoundaryView) : (s.channelBoundary v).member = s.member := by simp [State.channelBoundary]
@[simp] theorem State.channelBoundary_table (v : BoundaryView) : (s.channelBoundary v).table = s.table := by simp [State.channelBoundary]
@[simp] theorem State.channelBoundary_raised (v : BoundaryView) : (s.channelBoundary v).raised = s.raised := by simp [State.channelBoundary]
@[simp] theorem State.channelBoundary_events (v : BoundaryView) : (s.channelBoundary v).events = s.events := by simp [State.channelBoundary]
@[simp] theorem State.channelBoundary_corr (v : BoundaryView) : (s.channelBoundary v).corr = s.corr := by simp [State.channelBoundary]
@[simp] theorem State.channelBoundary_check (v : BoundaryView) : (s.channelBoundary v).check = s.check := by simp [State.channelBoundary]
@[simp] theorem State.channelBoundary_archive (v : BoundaryView) : (s.channelBoundary v).archive = s.archive := by simp [State.channelBoundary]
@[simp] theorem State.channelBoundary_port (v : BoundaryView) : (s.channelBoundary v).port = s.port := by simp [State.channelBoundary]
@[simp] theorem State.channelBoundary_freeReads (v : BoundaryView) : (s.channelBoundary v).freeReads = s.freeReads := by simp [State.channelBoundary]
@[simp] theorem State.channelBoundary_pending (v : BoundaryView) : (s.channelBoundary v).pending = s.pending := by simp [State.channelBoundary]

/-! ### correctionBoundary -/

@[simp] theorem State.correctionBoundary_phase : (s.correctionBoundary).phase = s.phase := by simp [State.correctionBoundary]
@[simp] theorem State.correctionBoundary_pins : (s.correctionBoundary).pins = s.pins := by simp [State.correctionBoundary]
@[simp] theorem State.correctionBoundary_store : (s.correctionBoundary).store = s.store := by simp [State.correctionBoundary]
@[simp] theorem State.correctionBoundary_setup : (s.correctionBoundary).setup = s.setup := by simp [State.correctionBoundary]
@[simp] theorem State.correctionBoundary_retention : (s.correctionBoundary).retention = s.retention := by simp [State.correctionBoundary]
@[simp] theorem State.correctionBoundary_tb : (s.correctionBoundary).tb = s.tb := by simp [State.correctionBoundary]
@[simp] theorem State.correctionBoundary_mark : (s.correctionBoundary).mark = s.mark := by simp [State.correctionBoundary]
@[simp] theorem State.correctionBoundary_line : (s.correctionBoundary).line = s.line := by simp [State.correctionBoundary]
@[simp] theorem State.correctionBoundary_member : (s.correctionBoundary).member = s.member := by simp [State.correctionBoundary]
@[simp] theorem State.correctionBoundary_table : (s.correctionBoundary).table = s.table := by simp [State.correctionBoundary]
@[simp] theorem State.correctionBoundary_raised : (s.correctionBoundary).raised = s.raised := by simp [State.correctionBoundary]
@[simp] theorem State.correctionBoundary_front : (s.correctionBoundary).front = s.front := by simp [State.correctionBoundary]
@[simp] theorem State.correctionBoundary_events : (s.correctionBoundary).events = s.events := by simp [State.correctionBoundary]
@[simp] theorem State.correctionBoundary_dec : (s.correctionBoundary).dec = s.dec := by simp [State.correctionBoundary]
@[simp] theorem State.correctionBoundary_restartPending : (s.correctionBoundary).restartPending = s.restartPending := by simp [State.correctionBoundary]
@[simp] theorem State.correctionBoundary_check : (s.correctionBoundary).check = s.check := by simp [State.correctionBoundary]
@[simp] theorem State.correctionBoundary_archive : (s.correctionBoundary).archive = s.archive := by simp [State.correctionBoundary]
@[simp] theorem State.correctionBoundary_port : (s.correctionBoundary).port = s.port := by simp [State.correctionBoundary]
@[simp] theorem State.correctionBoundary_freeReads : (s.correctionBoundary).freeReads = s.freeReads := by simp [State.correctionBoundary]
@[simp] theorem State.correctionBoundary_pending : (s.correctionBoundary).pending = s.pending := by simp [State.correctionBoundary]

/-! ### blocksAtBoundary -/

@[simp] theorem State.blocksAtBoundary_phase (v : BoundaryView) (b : Bool) : (s.blocksAtBoundary v b).phase = s.phase := by simp [State.blocksAtBoundary]
@[simp] theorem State.blocksAtBoundary_pins (v : BoundaryView) (b : Bool) : (s.blocksAtBoundary v b).pins = s.pins := by simp [State.blocksAtBoundary]
@[simp] theorem State.blocksAtBoundary_store (v : BoundaryView) (b : Bool) : (s.blocksAtBoundary v b).store = s.store := by simp [State.blocksAtBoundary]
@[simp] theorem State.blocksAtBoundary_setup (v : BoundaryView) (b : Bool) : (s.blocksAtBoundary v b).setup = s.setup := by simp [State.blocksAtBoundary]
@[simp] theorem State.blocksAtBoundary_retention (v : BoundaryView) (b : Bool) : (s.blocksAtBoundary v b).retention = s.retention := by simp [State.blocksAtBoundary]
@[simp] theorem State.blocksAtBoundary_tb (v : BoundaryView) (b : Bool) : (s.blocksAtBoundary v b).tb = s.tb := by simp [State.blocksAtBoundary]
@[simp] theorem State.blocksAtBoundary_check (v : BoundaryView) (b : Bool) : (s.blocksAtBoundary v b).check = s.check := by simp [State.blocksAtBoundary]
@[simp] theorem State.blocksAtBoundary_archive (v : BoundaryView) (b : Bool) : (s.blocksAtBoundary v b).archive = s.archive := by simp [State.blocksAtBoundary]
@[simp] theorem State.blocksAtBoundary_freeReads (v : BoundaryView) (b : Bool) : (s.blocksAtBoundary v b).freeReads = s.freeReads := by simp [State.blocksAtBoundary]
@[simp] theorem State.blocksAtBoundary_pending (v : BoundaryView) (b : Bool) : (s.blocksAtBoundary v b).pending = s.pending := by simp [State.blocksAtBoundary]

/-! ### countedBoundary -/

@[simp] theorem State.countedBoundary_phase (temp : Int) : (s.countedBoundary temp).phase = s.phase := by simp [State.countedBoundary]
@[simp] theorem State.countedBoundary_pins (temp : Int) : (s.countedBoundary temp).pins = s.pins := by simp [State.countedBoundary]
@[simp] theorem State.countedBoundary_store (temp : Int) : (s.countedBoundary temp).store = s.store := by simp [State.countedBoundary]
@[simp] theorem State.countedBoundary_setup (temp : Int) : (s.countedBoundary temp).setup = s.setup := by simp [State.countedBoundary]
@[simp] theorem State.countedBoundary_retention (temp : Int) : (s.countedBoundary temp).retention = s.retention := by simp [State.countedBoundary]
@[simp] theorem State.countedBoundary_check (temp : Int) : (s.countedBoundary temp).check = s.check := by simp [State.countedBoundary]
@[simp] theorem State.countedBoundary_archive (temp : Int) : (s.countedBoundary temp).archive = s.archive := by simp [State.countedBoundary]
@[simp] theorem State.countedBoundary_freeReads (temp : Int) : (s.countedBoundary temp).freeReads = s.freeReads := by simp [State.countedBoundary]
@[simp] theorem State.countedBoundary_pending (temp : Int) : (s.countedBoundary temp).pending = s.pending := by simp [State.countedBoundary]

/-! ### endLineActivity -/

@[simp] theorem State.endLineActivity_phase : (s.endLineActivity).phase = s.phase := by
  unfold State.endLineActivity
  dsimp only
  split
  · split <;> simp
  · simp
@[simp] theorem State.endLineActivity_pins : (s.endLineActivity).pins = s.pins := by
  unfold State.endLineActivity
  dsimp only
  split
  · split <;> simp
  · simp
@[simp] theorem State.endLineActivity_store : (s.endLineActivity).store = s.store := by
  unfold State.endLineActivity
  dsimp only
  split
  · split <;> simp
  · simp
@[simp] theorem State.endLineActivity_setup : (s.endLineActivity).setup = s.setup := by
  unfold State.endLineActivity
  dsimp only
  split
  · split <;> simp
  · simp
@[simp] theorem State.endLineActivity_retention : (s.endLineActivity).retention = s.retention := by
  unfold State.endLineActivity
  dsimp only
  split
  · split <;> simp
  · simp
@[simp] theorem State.endLineActivity_tb : (s.endLineActivity).tb = s.tb := by
  unfold State.endLineActivity
  dsimp only
  split
  · split <;> simp
  · simp
@[simp] theorem State.endLineActivity_mark : (s.endLineActivity).mark = s.mark := by
  unfold State.endLineActivity
  dsimp only
  split
  · split <;> simp
  · simp
@[simp] theorem State.endLineActivity_member : (s.endLineActivity).member = s.member := by
  unfold State.endLineActivity
  dsimp only
  split
  · split <;> simp
  · simp
@[simp] theorem State.endLineActivity_raised : (s.endLineActivity).raised = s.raised := by
  unfold State.endLineActivity
  dsimp only
  split
  · split <;> simp
  · simp
@[simp] theorem State.endLineActivity_front : (s.endLineActivity).front = s.front := by
  unfold State.endLineActivity
  dsimp only
  split
  · split <;> simp
  · simp
@[simp] theorem State.endLineActivity_events : (s.endLineActivity).events = s.events := by
  unfold State.endLineActivity
  dsimp only
  split
  · split <;> simp
  · simp
@[simp] theorem State.endLineActivity_dec : (s.endLineActivity).dec = s.dec := by
  unfold State.endLineActivity
  dsimp only
  split
  · split <;> simp
  · simp
@[simp] theorem State.endLineActivity_restartPending : (s.endLineActivity).restartPending = s.restartPending := by
  unfold State.endLineActivity
  dsimp only
  split
  · split <;> simp
  · simp
@[simp] theorem State.endLineActivity_corr : (s.endLineActivity).corr = s.corr := by
  unfold State.endLineActivity
  dsimp only
  split
  · split <;> simp
  · simp
@[simp] theorem State.endLineActivity_check : (s.endLineActivity).check = s.check := by
  unfold State.endLineActivity
  dsimp only
  split
  · split <;> simp
  · simp
@[simp] theorem State.endLineActivity_archive : (s.endLineActivity).archive = s.archive := by
  unfold State.endLineActivity
  dsimp only
  split
  · split <;> simp
  · simp
@[simp] theorem State.endLineActivity_port : (s.endLineActivity).port = s.port := by
  unfold State.endLineActivity
  dsimp only
  split
  · split <;> simp
  · simp
@[simp] theorem State.endLineActivity_freeReads : (s.endLineActivity).freeReads = s.freeReads := by
  unfold State.endLineActivity
  dsimp only
  split
  · split <;> simp
  · simp
@[simp] theorem State.endLineActivity_pending : (s.endLineActivity).pending = s.pending := by
  unfold State.endLineActivity
  dsimp only
  split
  · split <;> simp
  · simp

/-! ### releaseMark -/

@[simp] theorem State.releaseMark_phase (others : Bool) : (s.releaseMark others).phase = s.phase := by simp [State.releaseMark]
@[simp] theorem State.releaseMark_store (others : Bool) : (s.releaseMark others).store = s.store := by simp [State.releaseMark]
@[simp] theorem State.releaseMark_setup (others : Bool) : (s.releaseMark others).setup = s.setup := by simp [State.releaseMark]
@[simp] theorem State.releaseMark_retention (others : Bool) : (s.releaseMark others).retention = s.retention := by simp [State.releaseMark]
@[simp] theorem State.releaseMark_tb (others : Bool) : (s.releaseMark others).tb = s.tb := by simp [State.releaseMark]
@[simp] theorem State.releaseMark_line (others : Bool) : (s.releaseMark others).line = s.line := by simp [State.releaseMark]
@[simp] theorem State.releaseMark_member (others : Bool) : (s.releaseMark others).member = s.member := by simp [State.releaseMark]
@[simp] theorem State.releaseMark_table (others : Bool) : (s.releaseMark others).table = s.table := by simp [State.releaseMark]
@[simp] theorem State.releaseMark_raised (others : Bool) : (s.releaseMark others).raised = s.raised := by simp [State.releaseMark]
@[simp] theorem State.releaseMark_front (others : Bool) : (s.releaseMark others).front = s.front := by simp [State.releaseMark]
@[simp] theorem State.releaseMark_events (others : Bool) : (s.releaseMark others).events = s.events := by simp [State.releaseMark]
@[simp] theorem State.releaseMark_dec (others : Bool) : (s.releaseMark others).dec = s.dec := by simp [State.releaseMark]
@[simp] theorem State.releaseMark_restartPending (others : Bool) : (s.releaseMark others).restartPending = s.restartPending := by simp [State.releaseMark]
@[simp] theorem State.releaseMark_corr (others : Bool) : (s.releaseMark others).corr = s.corr := by simp [State.releaseMark]
@[simp] theorem State.releaseMark_check (others : Bool) : (s.releaseMark others).check = s.check := by simp [State.releaseMark]
@[simp] theorem State.releaseMark_archive (others : Bool) : (s.releaseMark others).archive = s.archive := by simp [State.releaseMark]
@[simp] theorem State.releaseMark_port (others : Bool) : (s.releaseMark others).port = s.port := by simp [State.releaseMark]
@[simp] theorem State.releaseMark_freeReads (others : Bool) : (s.releaseMark others).freeReads = s.freeReads := by simp [State.releaseMark]
@[simp] theorem State.releaseMark_pending (others : Bool) : (s.releaseMark others).pending = s.pending := by simp [State.releaseMark]

/-! ### stepTo -/

@[simp] theorem State.stepTo_phase (kind : BoundaryKind) (cause : Option (MarkKind × Int)) (collected : TimeState) (shift : Int) (tick : Nat) (temp : Int) (others : Bool) : (s.stepTo kind cause collected shift tick temp others).phase = s.phase := by simp [State.stepTo, State.raise]
@[simp] theorem State.stepTo_store (kind : BoundaryKind) (cause : Option (MarkKind × Int)) (collected : TimeState) (shift : Int) (tick : Nat) (temp : Int) (others : Bool) : (s.stepTo kind cause collected shift tick temp others).store = s.store := by simp [State.stepTo, State.raise]
@[simp] theorem State.stepTo_setup (kind : BoundaryKind) (cause : Option (MarkKind × Int)) (collected : TimeState) (shift : Int) (tick : Nat) (temp : Int) (others : Bool) : (s.stepTo kind cause collected shift tick temp others).setup = s.setup := by simp [State.stepTo, State.raise]
@[simp] theorem State.stepTo_freeReads (kind : BoundaryKind) (cause : Option (MarkKind × Int)) (collected : TimeState) (shift : Int) (tick : Nat) (temp : Int) (others : Bool) : (s.stepTo kind cause collected shift tick temp others).freeReads = s.freeReads := by simp [State.stepTo, State.raise]
@[simp] theorem State.stepTo_pending (kind : BoundaryKind) (cause : Option (MarkKind × Int)) (collected : TimeState) (shift : Int) (tick : Nat) (temp : Int) (others : Bool) : (s.stepTo kind cause collected shift tick temp others).pending = s.pending := by simp [State.stepTo, State.raise]

/-! ### takeEdge -/

@[simp] theorem State.takeEdge_phase (o : EdgeOutcome) : (s.takeEdge o).phase = s.phase := by simp [State.takeEdge]
@[simp] theorem State.takeEdge_pins (o : EdgeOutcome) : (s.takeEdge o).pins = s.pins := by simp [State.takeEdge]
@[simp] theorem State.takeEdge_store (o : EdgeOutcome) : (s.takeEdge o).store = s.store := by simp [State.takeEdge]
@[simp] theorem State.takeEdge_setup (o : EdgeOutcome) : (s.takeEdge o).setup = s.setup := by simp [State.takeEdge]
@[simp] theorem State.takeEdge_mark (o : EdgeOutcome) : (s.takeEdge o).mark = s.mark := by simp [State.takeEdge]
@[simp] theorem State.takeEdge_line (o : EdgeOutcome) : (s.takeEdge o).line = s.line := by simp [State.takeEdge]
@[simp] theorem State.takeEdge_member (o : EdgeOutcome) : (s.takeEdge o).member = s.member := by simp [State.takeEdge]
@[simp] theorem State.takeEdge_table (o : EdgeOutcome) : (s.takeEdge o).table = s.table := by simp [State.takeEdge]
@[simp] theorem State.takeEdge_raised (o : EdgeOutcome) : (s.takeEdge o).raised = s.raised := by simp [State.takeEdge]
@[simp] theorem State.takeEdge_front (o : EdgeOutcome) : (s.takeEdge o).front = s.front := by simp [State.takeEdge]
@[simp] theorem State.takeEdge_events (o : EdgeOutcome) : (s.takeEdge o).events = s.events := by simp [State.takeEdge]
@[simp] theorem State.takeEdge_dec (o : EdgeOutcome) : (s.takeEdge o).dec = s.dec := by simp [State.takeEdge]
@[simp] theorem State.takeEdge_restartPending (o : EdgeOutcome) : (s.takeEdge o).restartPending = s.restartPending := by simp [State.takeEdge]
@[simp] theorem State.takeEdge_corr (o : EdgeOutcome) : (s.takeEdge o).corr = s.corr := by simp [State.takeEdge]
@[simp] theorem State.takeEdge_check (o : EdgeOutcome) : (s.takeEdge o).check = s.check := by simp [State.takeEdge]
@[simp] theorem State.takeEdge_archive (o : EdgeOutcome) : (s.takeEdge o).archive = s.archive := by simp [State.takeEdge]
@[simp] theorem State.takeEdge_port (o : EdgeOutcome) : (s.takeEdge o).port = s.port := by simp [State.takeEdge]
@[simp] theorem State.takeEdge_freeReads (o : EdgeOutcome) : (s.takeEdge o).freeReads = s.freeReads := by simp [State.takeEdge]
@[simp] theorem State.takeEdge_pending (o : EdgeOutcome) : (s.takeEdge o).pending = s.pending := by simp [State.takeEdge]

/-! ### labelEdge -/

@[simp] theorem State.labelEdge_phase (phase : Int) : (s.labelEdge phase).phase = s.phase := by
  unfold State.labelEdge
  dsimp only
  split <;> simp
@[simp] theorem State.labelEdge_pins (phase : Int) : (s.labelEdge phase).pins = s.pins := by
  unfold State.labelEdge
  dsimp only
  split <;> simp
@[simp] theorem State.labelEdge_store (phase : Int) : (s.labelEdge phase).store = s.store := by
  unfold State.labelEdge
  dsimp only
  split <;> simp
@[simp] theorem State.labelEdge_setup (phase : Int) : (s.labelEdge phase).setup = s.setup := by
  unfold State.labelEdge
  dsimp only
  split <;> simp
@[simp] theorem State.labelEdge_retention (phase : Int) : (s.labelEdge phase).retention = s.retention := by
  unfold State.labelEdge
  dsimp only
  split <;> simp
@[simp] theorem State.labelEdge_mark (phase : Int) : (s.labelEdge phase).mark = s.mark := by
  unfold State.labelEdge
  dsimp only
  split <;> simp
@[simp] theorem State.labelEdge_line (phase : Int) : (s.labelEdge phase).line = s.line := by
  unfold State.labelEdge
  dsimp only
  split <;> simp
@[simp] theorem State.labelEdge_member (phase : Int) : (s.labelEdge phase).member = s.member := by
  unfold State.labelEdge
  dsimp only
  split <;> simp
@[simp] theorem State.labelEdge_front (phase : Int) : (s.labelEdge phase).front = s.front := by
  unfold State.labelEdge
  dsimp only
  split <;> simp
@[simp] theorem State.labelEdge_events (phase : Int) : (s.labelEdge phase).events = s.events := by
  unfold State.labelEdge
  dsimp only
  split <;> simp
@[simp] theorem State.labelEdge_dec (phase : Int) : (s.labelEdge phase).dec = s.dec := by
  unfold State.labelEdge
  dsimp only
  split <;> simp
@[simp] theorem State.labelEdge_restartPending (phase : Int) : (s.labelEdge phase).restartPending = s.restartPending := by
  unfold State.labelEdge
  dsimp only
  split <;> simp
@[simp] theorem State.labelEdge_corr (phase : Int) : (s.labelEdge phase).corr = s.corr := by
  unfold State.labelEdge
  dsimp only
  split <;> simp
@[simp] theorem State.labelEdge_check (phase : Int) : (s.labelEdge phase).check = s.check := by
  unfold State.labelEdge
  dsimp only
  split <;> simp
@[simp] theorem State.labelEdge_archive (phase : Int) : (s.labelEdge phase).archive = s.archive := by
  unfold State.labelEdge
  dsimp only
  split <;> simp
@[simp] theorem State.labelEdge_freeReads (phase : Int) : (s.labelEdge phase).freeReads = s.freeReads := by
  unfold State.labelEdge
  dsimp only
  split <;> simp
@[simp] theorem State.labelEdge_pending (phase : Int) : (s.labelEdge phase).pending = s.pending := by
  unfold State.labelEdge
  dsimp only
  split <;> simp

/-! ### referenceEdge -/

@[simp] theorem State.referenceEdge_phase (tick : Nat) (phase : Int) (inside : Bool) (temp : Int) (others : Bool) : (s.referenceEdge tick phase inside temp others).phase = s.phase := by
  unfold State.referenceEdge
  dsimp only
  generalize referenceEdgeOutcome _ _ _ _ = o
  repeat' split
  all_goals simp
@[simp] theorem State.referenceEdge_store (tick : Nat) (phase : Int) (inside : Bool) (temp : Int) (others : Bool) : (s.referenceEdge tick phase inside temp others).store = s.store := by
  unfold State.referenceEdge
  dsimp only
  generalize referenceEdgeOutcome _ _ _ _ = o
  repeat' split
  all_goals simp
@[simp] theorem State.referenceEdge_setup (tick : Nat) (phase : Int) (inside : Bool) (temp : Int) (others : Bool) : (s.referenceEdge tick phase inside temp others).setup = s.setup := by
  unfold State.referenceEdge
  dsimp only
  generalize referenceEdgeOutcome _ _ _ _ = o
  repeat' split
  all_goals simp
@[simp] theorem State.referenceEdge_freeReads (tick : Nat) (phase : Int) (inside : Bool) (temp : Int) (others : Bool) : (s.referenceEdge tick phase inside temp others).freeReads = s.freeReads := by
  unfold State.referenceEdge
  dsimp only
  generalize referenceEdgeOutcome _ _ _ _ = o
  repeat' split
  all_goals simp
@[simp] theorem State.referenceEdge_pending (tick : Nat) (phase : Int) (inside : Bool) (temp : Int) (others : Bool) : (s.referenceEdge tick phase inside temp others).pending = s.pending := by
  unfold State.referenceEdge
  dsimp only
  generalize referenceEdgeOutcome _ _ _ _ = o
  repeat' split
  all_goals simp

/-! ### recordPulse -/

@[simp] theorem State.recordPulse_phase (kind : MarkKind) (rise attributed phase : Int) (taken : Bool) : (s.recordPulse kind rise attributed phase taken).phase = s.phase := by
  unfold State.recordPulse
  dsimp only
  split
  · split <;> simp
  · simp
@[simp] theorem State.recordPulse_pins (kind : MarkKind) (rise attributed phase : Int) (taken : Bool) : (s.recordPulse kind rise attributed phase taken).pins = s.pins := by
  unfold State.recordPulse
  dsimp only
  split
  · split <;> simp
  · simp
@[simp] theorem State.recordPulse_store (kind : MarkKind) (rise attributed phase : Int) (taken : Bool) : (s.recordPulse kind rise attributed phase taken).store = s.store := by
  unfold State.recordPulse
  dsimp only
  split
  · split <;> simp
  · simp
@[simp] theorem State.recordPulse_setup (kind : MarkKind) (rise attributed phase : Int) (taken : Bool) : (s.recordPulse kind rise attributed phase taken).setup = s.setup := by
  unfold State.recordPulse
  dsimp only
  split
  · split <;> simp
  · simp
@[simp] theorem State.recordPulse_retention (kind : MarkKind) (rise attributed phase : Int) (taken : Bool) : (s.recordPulse kind rise attributed phase taken).retention = s.retention := by
  unfold State.recordPulse
  dsimp only
  split
  · split <;> simp
  · simp
@[simp] theorem State.recordPulse_tb (kind : MarkKind) (rise attributed phase : Int) (taken : Bool) : (s.recordPulse kind rise attributed phase taken).tb = s.tb := by
  unfold State.recordPulse
  dsimp only
  split
  · split <;> simp
  · simp
@[simp] theorem State.recordPulse_line (kind : MarkKind) (rise attributed phase : Int) (taken : Bool) : (s.recordPulse kind rise attributed phase taken).line = s.line := by
  unfold State.recordPulse
  dsimp only
  split
  · split <;> simp
  · simp
@[simp] theorem State.recordPulse_member (kind : MarkKind) (rise attributed phase : Int) (taken : Bool) : (s.recordPulse kind rise attributed phase taken).member = s.member := by
  unfold State.recordPulse
  dsimp only
  split
  · split <;> simp
  · simp
@[simp] theorem State.recordPulse_raised (kind : MarkKind) (rise attributed phase : Int) (taken : Bool) : (s.recordPulse kind rise attributed phase taken).raised = s.raised := by
  unfold State.recordPulse
  dsimp only
  split
  · split <;> simp
  · simp
@[simp] theorem State.recordPulse_front (kind : MarkKind) (rise attributed phase : Int) (taken : Bool) : (s.recordPulse kind rise attributed phase taken).front = s.front := by
  unfold State.recordPulse
  dsimp only
  split
  · split <;> simp
  · simp
@[simp] theorem State.recordPulse_events (kind : MarkKind) (rise attributed phase : Int) (taken : Bool) : (s.recordPulse kind rise attributed phase taken).events = s.events := by
  unfold State.recordPulse
  dsimp only
  split
  · split <;> simp
  · simp
@[simp] theorem State.recordPulse_dec (kind : MarkKind) (rise attributed phase : Int) (taken : Bool) : (s.recordPulse kind rise attributed phase taken).dec = s.dec := by
  unfold State.recordPulse
  dsimp only
  split
  · split <;> simp
  · simp
@[simp] theorem State.recordPulse_restartPending (kind : MarkKind) (rise attributed phase : Int) (taken : Bool) : (s.recordPulse kind rise attributed phase taken).restartPending = s.restartPending := by
  unfold State.recordPulse
  dsimp only
  split
  · split <;> simp
  · simp
@[simp] theorem State.recordPulse_corr (kind : MarkKind) (rise attributed phase : Int) (taken : Bool) : (s.recordPulse kind rise attributed phase taken).corr = s.corr := by
  unfold State.recordPulse
  dsimp only
  split
  · split <;> simp
  · simp
@[simp] theorem State.recordPulse_check (kind : MarkKind) (rise attributed phase : Int) (taken : Bool) : (s.recordPulse kind rise attributed phase taken).check = s.check := by
  unfold State.recordPulse
  dsimp only
  split
  · split <;> simp
  · simp
@[simp] theorem State.recordPulse_archive (kind : MarkKind) (rise attributed phase : Int) (taken : Bool) : (s.recordPulse kind rise attributed phase taken).archive = s.archive := by
  unfold State.recordPulse
  dsimp only
  split
  · split <;> simp
  · simp
@[simp] theorem State.recordPulse_port (kind : MarkKind) (rise attributed phase : Int) (taken : Bool) : (s.recordPulse kind rise attributed phase taken).port = s.port := by
  unfold State.recordPulse
  dsimp only
  split
  · split <;> simp
  · simp
@[simp] theorem State.recordPulse_freeReads (kind : MarkKind) (rise attributed phase : Int) (taken : Bool) : (s.recordPulse kind rise attributed phase taken).freeReads = s.freeReads := by
  unfold State.recordPulse
  dsimp only
  split
  · split <;> simp
  · simp
@[simp] theorem State.recordPulse_pending (kind : MarkKind) (rise attributed phase : Int) (taken : Bool) : (s.recordPulse kind rise attributed phase taken).pending = s.pending := by
  unfold State.recordPulse
  dsimp only
  split
  · split <;> simp
  · simp

/-! ### classify -/

@[simp] theorem State.classify_phase (kind : MarkKind) (rise attributed : Int) (tick : Nat) (temp : Int) (others : Bool) : (s.classify kind rise attributed tick temp others).phase = s.phase := by
  unfold State.classify
  dsimp only
  split <;> simp
@[simp] theorem State.classify_store (kind : MarkKind) (rise attributed : Int) (tick : Nat) (temp : Int) (others : Bool) : (s.classify kind rise attributed tick temp others).store = s.store := by
  unfold State.classify
  dsimp only
  split <;> simp
@[simp] theorem State.classify_setup (kind : MarkKind) (rise attributed : Int) (tick : Nat) (temp : Int) (others : Bool) : (s.classify kind rise attributed tick temp others).setup = s.setup := by
  unfold State.classify
  dsimp only
  split <;> simp
@[simp] theorem State.classify_freeReads (kind : MarkKind) (rise attributed : Int) (tick : Nat) (temp : Int) (others : Bool) : (s.classify kind rise attributed tick temp others).freeReads = s.freeReads := by
  unfold State.classify
  dsimp only
  split <;> simp
@[simp] theorem State.classify_pending (kind : MarkKind) (rise attributed : Int) (tick : Nat) (temp : Int) (others : Bool) : (s.classify kind rise attributed tick temp others).pending = s.pending := by
  unfold State.classify
  dsimp only
  split <;> simp

/-! ### endReception -/

@[simp] theorem State.endReception_phase (x : Reception) (c : Cell) : (s.endReception x c).phase = s.phase := by simp [State.endReception]
@[simp] theorem State.endReception_pins (x : Reception) (c : Cell) : (s.endReception x c).pins = s.pins := by simp [State.endReception]
@[simp] theorem State.endReception_store (x : Reception) (c : Cell) : (s.endReception x c).store = s.store := by simp [State.endReception]
@[simp] theorem State.endReception_setup (x : Reception) (c : Cell) : (s.endReception x c).setup = s.setup := by simp [State.endReception]
@[simp] theorem State.endReception_retention (x : Reception) (c : Cell) : (s.endReception x c).retention = s.retention := by simp [State.endReception]
@[simp] theorem State.endReception_tb (x : Reception) (c : Cell) : (s.endReception x c).tb = s.tb := by simp [State.endReception]
@[simp] theorem State.endReception_mark (x : Reception) (c : Cell) : (s.endReception x c).mark = s.mark := by simp [State.endReception]
@[simp] theorem State.endReception_member (x : Reception) (c : Cell) : (s.endReception x c).member = s.member := by simp [State.endReception]
@[simp] theorem State.endReception_raised (x : Reception) (c : Cell) : (s.endReception x c).raised = s.raised := by simp [State.endReception]
@[simp] theorem State.endReception_front (x : Reception) (c : Cell) : (s.endReception x c).front = s.front := by simp [State.endReception]
@[simp] theorem State.endReception_events (x : Reception) (c : Cell) : (s.endReception x c).events = s.events := by simp [State.endReception]
@[simp] theorem State.endReception_dec (x : Reception) (c : Cell) : (s.endReception x c).dec = s.dec := by simp [State.endReception]
@[simp] theorem State.endReception_restartPending (x : Reception) (c : Cell) : (s.endReception x c).restartPending = s.restartPending := by simp [State.endReception]
@[simp] theorem State.endReception_corr (x : Reception) (c : Cell) : (s.endReception x c).corr = s.corr := by simp [State.endReception]
@[simp] theorem State.endReception_check (x : Reception) (c : Cell) : (s.endReception x c).check = s.check := by simp [State.endReception]
@[simp] theorem State.endReception_archive (x : Reception) (c : Cell) : (s.endReception x c).archive = s.archive := by simp [State.endReception]
@[simp] theorem State.endReception_port (x : Reception) (c : Cell) : (s.endReception x c).port = s.port := by simp [State.endReception]
@[simp] theorem State.endReception_freeReads (x : Reception) (c : Cell) : (s.endReception x c).freeReads = s.freeReads := by simp [State.endReception]
@[simp] theorem State.endReception_pending (x : Reception) (c : Cell) : (s.endReception x c).pending = s.pending := by simp [State.endReception]

/-! ### atCell -/

@[simp] theorem State.atCell_phase (x : Reception) : (s.atCell x).phase = s.phase := (rfl)
@[simp] theorem State.atCell_pins (x : Reception) : (s.atCell x).pins = s.pins := (rfl)
@[simp] theorem State.atCell_store (x : Reception) : (s.atCell x).store = s.store := (rfl)
@[simp] theorem State.atCell_setup (x : Reception) : (s.atCell x).setup = s.setup := (rfl)
@[simp] theorem State.atCell_retention (x : Reception) : (s.atCell x).retention = s.retention := (rfl)
@[simp] theorem State.atCell_mark (x : Reception) : (s.atCell x).mark = s.mark := (rfl)
@[simp] theorem State.atCell_line (x : Reception) : (s.atCell x).line = s.line := (rfl)
@[simp] theorem State.atCell_member (x : Reception) : (s.atCell x).member = s.member := (rfl)
@[simp] theorem State.atCell_table (x : Reception) : (s.atCell x).table = s.table := (rfl)
@[simp] theorem State.atCell_raised (x : Reception) : (s.atCell x).raised = s.raised := (rfl)
@[simp] theorem State.atCell_front (x : Reception) : (s.atCell x).front = s.front := (rfl)
@[simp] theorem State.atCell_events (x : Reception) : (s.atCell x).events = s.events := (rfl)
@[simp] theorem State.atCell_dec (x : Reception) : (s.atCell x).dec = s.dec := (rfl)
@[simp] theorem State.atCell_restartPending (x : Reception) : (s.atCell x).restartPending = s.restartPending := (rfl)
@[simp] theorem State.atCell_corr (x : Reception) : (s.atCell x).corr = s.corr := (rfl)
@[simp] theorem State.atCell_check (x : Reception) : (s.atCell x).check = s.check := (rfl)
@[simp] theorem State.atCell_archive (x : Reception) : (s.atCell x).archive = s.archive := (rfl)
@[simp] theorem State.atCell_port (x : Reception) : (s.atCell x).port = s.port := (rfl)
@[simp] theorem State.atCell_freeReads (x : Reception) : (s.atCell x).freeReads = s.freeReads := (rfl)
@[simp] theorem State.atCell_pending (x : Reception) : (s.atCell x).pending = s.pending := (rfl)

/-! ### readFrame -/

@[simp] theorem State.readFrame_phase (levels : List Bool) : (s.readFrame levels).phase = s.phase := by
  unfold State.readFrame
  repeat' split
  all_goals simp
@[simp] theorem State.readFrame_pins (levels : List Bool) : (s.readFrame levels).pins = s.pins := by
  unfold State.readFrame
  repeat' split
  all_goals simp
@[simp] theorem State.readFrame_store (levels : List Bool) : (s.readFrame levels).store = s.store := by
  unfold State.readFrame
  repeat' split
  all_goals simp
@[simp] theorem State.readFrame_setup (levels : List Bool) : (s.readFrame levels).setup = s.setup := by
  unfold State.readFrame
  repeat' split
  all_goals simp
@[simp] theorem State.readFrame_retention (levels : List Bool) : (s.readFrame levels).retention = s.retention := by
  unfold State.readFrame
  repeat' split
  all_goals simp
@[simp] theorem State.readFrame_mark (levels : List Bool) : (s.readFrame levels).mark = s.mark := by
  unfold State.readFrame
  repeat' split
  all_goals simp
@[simp] theorem State.readFrame_member (levels : List Bool) : (s.readFrame levels).member = s.member := by
  unfold State.readFrame
  repeat' split
  all_goals simp
@[simp] theorem State.readFrame_raised (levels : List Bool) : (s.readFrame levels).raised = s.raised := by
  unfold State.readFrame
  repeat' split
  all_goals simp
@[simp] theorem State.readFrame_front (levels : List Bool) : (s.readFrame levels).front = s.front := by
  unfold State.readFrame
  repeat' split
  all_goals simp
@[simp] theorem State.readFrame_events (levels : List Bool) : (s.readFrame levels).events = s.events := by
  unfold State.readFrame
  repeat' split
  all_goals simp
@[simp] theorem State.readFrame_dec (levels : List Bool) : (s.readFrame levels).dec = s.dec := by
  unfold State.readFrame
  repeat' split
  all_goals simp
@[simp] theorem State.readFrame_restartPending (levels : List Bool) : (s.readFrame levels).restartPending = s.restartPending := by
  unfold State.readFrame
  repeat' split
  all_goals simp
@[simp] theorem State.readFrame_corr (levels : List Bool) : (s.readFrame levels).corr = s.corr := by
  unfold State.readFrame
  repeat' split
  all_goals simp
@[simp] theorem State.readFrame_check (levels : List Bool) : (s.readFrame levels).check = s.check := by
  unfold State.readFrame
  repeat' split
  all_goals simp
@[simp] theorem State.readFrame_archive (levels : List Bool) : (s.readFrame levels).archive = s.archive := by
  unfold State.readFrame
  repeat' split
  all_goals simp
@[simp] theorem State.readFrame_port (levels : List Bool) : (s.readFrame levels).port = s.port := by
  unfold State.readFrame
  repeat' split
  all_goals simp
@[simp] theorem State.readFrame_freeReads (levels : List Bool) : (s.readFrame levels).freeReads = s.freeReads := by
  unfold State.readFrame
  repeat' split
  all_goals simp
@[simp] theorem State.readFrame_pending (levels : List Bool) : (s.readFrame levels).pending = s.pending := by
  unfold State.readFrame
  repeat' split
  all_goals simp

/-! ### storeSummary -/

@[simp] theorem State.storeSummary_phase (bits : SummarySet) : (s.storeSummary bits).phase = s.phase := by simp [State.storeSummary]
@[simp] theorem State.storeSummary_pins (bits : SummarySet) : (s.storeSummary bits).pins = s.pins := by simp [State.storeSummary]
@[simp] theorem State.storeSummary_store (bits : SummarySet) : (s.storeSummary bits).store = s.store := by simp [State.storeSummary]
@[simp] theorem State.storeSummary_setup (bits : SummarySet) : (s.storeSummary bits).setup = s.setup := by simp [State.storeSummary]
@[simp] theorem State.storeSummary_retention (bits : SummarySet) : (s.storeSummary bits).retention = s.retention := by simp [State.storeSummary]
@[simp] theorem State.storeSummary_tb (bits : SummarySet) : (s.storeSummary bits).tb = s.tb := by simp [State.storeSummary]
@[simp] theorem State.storeSummary_mark (bits : SummarySet) : (s.storeSummary bits).mark = s.mark := by simp [State.storeSummary]
@[simp] theorem State.storeSummary_member (bits : SummarySet) : (s.storeSummary bits).member = s.member := by simp [State.storeSummary]
@[simp] theorem State.storeSummary_raised (bits : SummarySet) : (s.storeSummary bits).raised = s.raised := by simp [State.storeSummary]
@[simp] theorem State.storeSummary_front (bits : SummarySet) : (s.storeSummary bits).front = s.front := by simp [State.storeSummary]
@[simp] theorem State.storeSummary_events (bits : SummarySet) : (s.storeSummary bits).events = s.events := by simp [State.storeSummary]
@[simp] theorem State.storeSummary_dec (bits : SummarySet) : (s.storeSummary bits).dec = s.dec := by simp [State.storeSummary]
@[simp] theorem State.storeSummary_restartPending (bits : SummarySet) : (s.storeSummary bits).restartPending = s.restartPending := by simp [State.storeSummary]
@[simp] theorem State.storeSummary_corr (bits : SummarySet) : (s.storeSummary bits).corr = s.corr := by simp [State.storeSummary]
@[simp] theorem State.storeSummary_check (bits : SummarySet) : (s.storeSummary bits).check = s.check := by simp [State.storeSummary]
@[simp] theorem State.storeSummary_archive (bits : SummarySet) : (s.storeSummary bits).archive = s.archive := by simp [State.storeSummary]
@[simp] theorem State.storeSummary_port (bits : SummarySet) : (s.storeSummary bits).port = s.port := by simp [State.storeSummary]
@[simp] theorem State.storeSummary_freeReads (bits : SummarySet) : (s.storeSummary bits).freeReads = s.freeReads := by simp [State.storeSummary]
@[simp] theorem State.storeSummary_pending (bits : SummarySet) : (s.storeSummary bits).pending = s.pending := by simp [State.storeSummary]

/-! ### converted -/

@[simp] theorem State.converted_phase (i : Channel) (o : ConversionOutcome) : (s.converted i o).phase = s.phase := by
  unfold State.converted
  dsimp only
  split <;> split <;> simp
@[simp] theorem State.converted_pins (i : Channel) (o : ConversionOutcome) : (s.converted i o).pins = s.pins := by
  unfold State.converted
  dsimp only
  split <;> split <;> simp
@[simp] theorem State.converted_store (i : Channel) (o : ConversionOutcome) : (s.converted i o).store = s.store := by
  unfold State.converted
  dsimp only
  split <;> split <;> simp
@[simp] theorem State.converted_setup (i : Channel) (o : ConversionOutcome) : (s.converted i o).setup = s.setup := by
  unfold State.converted
  dsimp only
  split <;> split <;> simp
@[simp] theorem State.converted_tb (i : Channel) (o : ConversionOutcome) : (s.converted i o).tb = s.tb := by
  unfold State.converted
  dsimp only
  split <;> split <;> simp
@[simp] theorem State.converted_mark (i : Channel) (o : ConversionOutcome) : (s.converted i o).mark = s.mark := by
  unfold State.converted
  dsimp only
  split <;> split <;> simp
@[simp] theorem State.converted_line (i : Channel) (o : ConversionOutcome) : (s.converted i o).line = s.line := by
  unfold State.converted
  dsimp only
  split <;> split <;> simp
@[simp] theorem State.converted_member (i : Channel) (o : ConversionOutcome) : (s.converted i o).member = s.member := by
  unfold State.converted
  dsimp only
  split <;> split <;> simp
@[simp] theorem State.converted_table (i : Channel) (o : ConversionOutcome) : (s.converted i o).table = s.table := by
  unfold State.converted
  dsimp only
  split <;> split <;> simp
@[simp] theorem State.converted_events (i : Channel) (o : ConversionOutcome) : (s.converted i o).events = s.events := by
  unfold State.converted
  dsimp only
  split <;> split <;> simp
@[simp] theorem State.converted_restartPending (i : Channel) (o : ConversionOutcome) : (s.converted i o).restartPending = s.restartPending := by
  unfold State.converted
  dsimp only
  split <;> split <;> simp
@[simp] theorem State.converted_corr (i : Channel) (o : ConversionOutcome) : (s.converted i o).corr = s.corr := by
  unfold State.converted
  dsimp only
  split <;> split <;> simp
@[simp] theorem State.converted_check (i : Channel) (o : ConversionOutcome) : (s.converted i o).check = s.check := by
  unfold State.converted
  dsimp only
  split <;> split <;> simp
@[simp] theorem State.converted_archive (i : Channel) (o : ConversionOutcome) : (s.converted i o).archive = s.archive := by
  unfold State.converted
  dsimp only
  split <;> split <;> simp
@[simp] theorem State.converted_freeReads (i : Channel) (o : ConversionOutcome) : (s.converted i o).freeReads = s.freeReads := by
  unfold State.converted
  dsimp only
  split <;> split <;> simp
@[simp] theorem State.converted_pending (i : Channel) (o : ConversionOutcome) : (s.converted i o).pending = s.pending := by
  unfold State.converted
  dsimp only
  split <;> split <;> simp

/-! ### result -/

@[simp] theorem State.result_phase (r : PortResult) : (s.result r).phase = s.phase := (rfl)
@[simp] theorem State.result_pins (r : PortResult) : (s.result r).pins = s.pins := (rfl)
@[simp] theorem State.result_store (r : PortResult) : (s.result r).store = s.store := (rfl)
@[simp] theorem State.result_setup (r : PortResult) : (s.result r).setup = s.setup := (rfl)
@[simp] theorem State.result_retention (r : PortResult) : (s.result r).retention = s.retention := (rfl)
@[simp] theorem State.result_tb (r : PortResult) : (s.result r).tb = s.tb := (rfl)
@[simp] theorem State.result_mark (r : PortResult) : (s.result r).mark = s.mark := (rfl)
@[simp] theorem State.result_line (r : PortResult) : (s.result r).line = s.line := (rfl)
@[simp] theorem State.result_member (r : PortResult) : (s.result r).member = s.member := (rfl)
@[simp] theorem State.result_table (r : PortResult) : (s.result r).table = s.table := (rfl)
@[simp] theorem State.result_raised (r : PortResult) : (s.result r).raised = s.raised := (rfl)
@[simp] theorem State.result_front (r : PortResult) : (s.result r).front = s.front := (rfl)
@[simp] theorem State.result_events (r : PortResult) : (s.result r).events = s.events := (rfl)
@[simp] theorem State.result_dec (r : PortResult) : (s.result r).dec = s.dec := (rfl)
@[simp] theorem State.result_restartPending (r : PortResult) : (s.result r).restartPending = s.restartPending := (rfl)
@[simp] theorem State.result_corr (r : PortResult) : (s.result r).corr = s.corr := (rfl)
@[simp] theorem State.result_check (r : PortResult) : (s.result r).check = s.check := (rfl)
@[simp] theorem State.result_archive (r : PortResult) : (s.result r).archive = s.archive := (rfl)
@[simp] theorem State.result_freeReads (r : PortResult) : (s.result r).freeReads = s.freeReads := (rfl)
@[simp] theorem State.result_pending (r : PortResult) : (s.result r).pending = s.pending := (rfl)

/-! ### answer -/

@[simp] theorem State.answer_phase (image : List Byte) : (s.answer image).phase = s.phase := (rfl)
@[simp] theorem State.answer_pins (image : List Byte) : (s.answer image).pins = s.pins := (rfl)
@[simp] theorem State.answer_store (image : List Byte) : (s.answer image).store = s.store := (rfl)
@[simp] theorem State.answer_setup (image : List Byte) : (s.answer image).setup = s.setup := (rfl)
@[simp] theorem State.answer_retention (image : List Byte) : (s.answer image).retention = s.retention := (rfl)
@[simp] theorem State.answer_tb (image : List Byte) : (s.answer image).tb = s.tb := (rfl)
@[simp] theorem State.answer_mark (image : List Byte) : (s.answer image).mark = s.mark := (rfl)
@[simp] theorem State.answer_line (image : List Byte) : (s.answer image).line = s.line := (rfl)
@[simp] theorem State.answer_member (image : List Byte) : (s.answer image).member = s.member := (rfl)
@[simp] theorem State.answer_table (image : List Byte) : (s.answer image).table = s.table := (rfl)
@[simp] theorem State.answer_raised (image : List Byte) : (s.answer image).raised = s.raised := (rfl)
@[simp] theorem State.answer_front (image : List Byte) : (s.answer image).front = s.front := (rfl)
@[simp] theorem State.answer_events (image : List Byte) : (s.answer image).events = s.events := (rfl)
@[simp] theorem State.answer_dec (image : List Byte) : (s.answer image).dec = s.dec := (rfl)
@[simp] theorem State.answer_restartPending (image : List Byte) : (s.answer image).restartPending = s.restartPending := (rfl)
@[simp] theorem State.answer_corr (image : List Byte) : (s.answer image).corr = s.corr := (rfl)
@[simp] theorem State.answer_check (image : List Byte) : (s.answer image).check = s.check := (rfl)
@[simp] theorem State.answer_archive (image : List Byte) : (s.answer image).archive = s.archive := (rfl)
@[simp] theorem State.answer_freeReads (image : List Byte) : (s.answer image).freeReads = s.freeReads := (rfl)
@[simp] theorem State.answer_pending (image : List Byte) : (s.answer image).pending = s.pending := (rfl)

/-! ### programSetup -/

@[simp] theorem State.programSetup_phase (enable : Bool) (record : List Byte) : (s.programSetup enable record).phase = s.phase := by
  unfold State.programSetup
  split
  · simp
  · split <;> simp
@[simp] theorem State.programSetup_pins (enable : Bool) (record : List Byte) : (s.programSetup enable record).pins = s.pins := by
  unfold State.programSetup
  split
  · simp
  · split <;> simp
@[simp] theorem State.programSetup_setup (enable : Bool) (record : List Byte) : (s.programSetup enable record).setup = s.setup := by
  unfold State.programSetup
  split
  · simp
  · split <;> simp
@[simp] theorem State.programSetup_retention (enable : Bool) (record : List Byte) : (s.programSetup enable record).retention = s.retention := by
  unfold State.programSetup
  split
  · simp
  · split <;> simp
@[simp] theorem State.programSetup_tb (enable : Bool) (record : List Byte) : (s.programSetup enable record).tb = s.tb := by
  unfold State.programSetup
  split
  · simp
  · split <;> simp
@[simp] theorem State.programSetup_mark (enable : Bool) (record : List Byte) : (s.programSetup enable record).mark = s.mark := by
  unfold State.programSetup
  split
  · simp
  · split <;> simp
@[simp] theorem State.programSetup_line (enable : Bool) (record : List Byte) : (s.programSetup enable record).line = s.line := by
  unfold State.programSetup
  split
  · simp
  · split <;> simp
@[simp] theorem State.programSetup_member (enable : Bool) (record : List Byte) : (s.programSetup enable record).member = s.member := by
  unfold State.programSetup
  split
  · simp
  · split <;> simp
@[simp] theorem State.programSetup_table (enable : Bool) (record : List Byte) : (s.programSetup enable record).table = s.table := by
  unfold State.programSetup
  split
  · simp
  · split <;> simp
@[simp] theorem State.programSetup_raised (enable : Bool) (record : List Byte) : (s.programSetup enable record).raised = s.raised := by
  unfold State.programSetup
  split
  · simp
  · split <;> simp
@[simp] theorem State.programSetup_front (enable : Bool) (record : List Byte) : (s.programSetup enable record).front = s.front := by
  unfold State.programSetup
  split
  · simp
  · split <;> simp
@[simp] theorem State.programSetup_events (enable : Bool) (record : List Byte) : (s.programSetup enable record).events = s.events := by
  unfold State.programSetup
  split
  · simp
  · split <;> simp
@[simp] theorem State.programSetup_dec (enable : Bool) (record : List Byte) : (s.programSetup enable record).dec = s.dec := by
  unfold State.programSetup
  split
  · simp
  · split <;> simp
@[simp] theorem State.programSetup_restartPending (enable : Bool) (record : List Byte) : (s.programSetup enable record).restartPending = s.restartPending := by
  unfold State.programSetup
  split
  · simp
  · split <;> simp
@[simp] theorem State.programSetup_corr (enable : Bool) (record : List Byte) : (s.programSetup enable record).corr = s.corr := by
  unfold State.programSetup
  split
  · simp
  · split <;> simp
@[simp] theorem State.programSetup_check (enable : Bool) (record : List Byte) : (s.programSetup enable record).check = s.check := by
  unfold State.programSetup
  split
  · simp
  · split <;> simp
@[simp] theorem State.programSetup_archive (enable : Bool) (record : List Byte) : (s.programSetup enable record).archive = s.archive := by
  unfold State.programSetup
  split
  · simp
  · split <;> simp
@[simp] theorem State.programSetup_freeReads (enable : Bool) (record : List Byte) : (s.programSetup enable record).freeReads = s.freeReads := by
  unfold State.programSetup
  split
  · simp
  · split <;> simp
@[simp] theorem State.programSetup_pending (enable : Bool) (record : List Byte) : (s.programSetup enable record).pending = s.pending := by
  unfold State.programSetup
  split
  · simp
  · split <;> simp

/-! ### formImage -/

@[simp] theorem State.formImage_phase : (s.formImage).phase = s.phase := by simp [State.formImage]
@[simp] theorem State.formImage_pins : (s.formImage).pins = s.pins := by simp [State.formImage]
@[simp] theorem State.formImage_store : (s.formImage).store = s.store := by simp [State.formImage]
@[simp] theorem State.formImage_setup : (s.formImage).setup = s.setup := by simp [State.formImage]
@[simp] theorem State.formImage_retention : (s.formImage).retention = s.retention := by simp [State.formImage]
@[simp] theorem State.formImage_tb : (s.formImage).tb = s.tb := by simp [State.formImage]
@[simp] theorem State.formImage_mark : (s.formImage).mark = s.mark := by simp [State.formImage]
@[simp] theorem State.formImage_line : (s.formImage).line = s.line := by simp [State.formImage]
@[simp] theorem State.formImage_member : (s.formImage).member = s.member := by simp [State.formImage]
@[simp] theorem State.formImage_table : (s.formImage).table = s.table := by simp [State.formImage]
@[simp] theorem State.formImage_raised : (s.formImage).raised = s.raised := by simp [State.formImage]
@[simp] theorem State.formImage_front : (s.formImage).front = s.front := by simp [State.formImage]
@[simp] theorem State.formImage_events : (s.formImage).events = s.events := by simp [State.formImage]
@[simp] theorem State.formImage_dec : (s.formImage).dec = s.dec := by simp [State.formImage]
@[simp] theorem State.formImage_restartPending : (s.formImage).restartPending = s.restartPending := by simp [State.formImage]
@[simp] theorem State.formImage_corr : (s.formImage).corr = s.corr := by simp [State.formImage]
@[simp] theorem State.formImage_check : (s.formImage).check = s.check := by simp [State.formImage]
@[simp] theorem State.formImage_archive : (s.formImage).archive = s.archive := by simp [State.formImage]
@[simp] theorem State.formImage_pending : (s.formImage).pending = s.pending := by simp [State.formImage]

/-! ### due -/

@[simp] theorem State.due_phase : (s.due).phase = s.phase := by unfold State.due; split <;> simp
@[simp] theorem State.due_pins : (s.due).pins = s.pins := by unfold State.due; split <;> simp
@[simp] theorem State.due_store : (s.due).store = s.store := by unfold State.due; split <;> simp
@[simp] theorem State.due_setup : (s.due).setup = s.setup := by unfold State.due; split <;> simp
@[simp] theorem State.due_retention : (s.due).retention = s.retention := by unfold State.due; split <;> simp
@[simp] theorem State.due_tb : (s.due).tb = s.tb := by unfold State.due; split <;> simp
@[simp] theorem State.due_mark : (s.due).mark = s.mark := by unfold State.due; split <;> simp
@[simp] theorem State.due_line : (s.due).line = s.line := by unfold State.due; split <;> simp
@[simp] theorem State.due_member : (s.due).member = s.member := by unfold State.due; split <;> simp
@[simp] theorem State.due_table : (s.due).table = s.table := by unfold State.due; split <;> simp
@[simp] theorem State.due_raised : (s.due).raised = s.raised := by unfold State.due; split <;> simp
@[simp] theorem State.due_front : (s.due).front = s.front := by unfold State.due; split <;> simp
@[simp] theorem State.due_events : (s.due).events = s.events := by unfold State.due; split <;> simp
@[simp] theorem State.due_dec : (s.due).dec = s.dec := by unfold State.due; split <;> simp
@[simp] theorem State.due_restartPending : (s.due).restartPending = s.restartPending := by unfold State.due; split <;> simp
@[simp] theorem State.due_corr : (s.due).corr = s.corr := by unfold State.due; split <;> simp
@[simp] theorem State.due_check : (s.due).check = s.check := by unfold State.due; split <;> simp
@[simp] theorem State.due_archive : (s.due).archive = s.archive := by unfold State.due; split <;> simp
@[simp] theorem State.due_pending : (s.due).pending = s.pending := by unfold State.due; split <;> simp

/-! ### clockByte -/

@[simp] theorem State.clockByte_phase : (s.clockByte).phase = s.phase := by simp [State.clockByte]
@[simp] theorem State.clockByte_pins : (s.clockByte).pins = s.pins := by simp [State.clockByte]
@[simp] theorem State.clockByte_store : (s.clockByte).store = s.store := by simp [State.clockByte]
@[simp] theorem State.clockByte_setup : (s.clockByte).setup = s.setup := by simp [State.clockByte]
@[simp] theorem State.clockByte_retention : (s.clockByte).retention = s.retention := by simp [State.clockByte]
@[simp] theorem State.clockByte_tb : (s.clockByte).tb = s.tb := by simp [State.clockByte]
@[simp] theorem State.clockByte_mark : (s.clockByte).mark = s.mark := by simp [State.clockByte]
@[simp] theorem State.clockByte_line : (s.clockByte).line = s.line := by simp [State.clockByte]
@[simp] theorem State.clockByte_member : (s.clockByte).member = s.member := by simp [State.clockByte]
@[simp] theorem State.clockByte_table : (s.clockByte).table = s.table := by simp [State.clockByte]
@[simp] theorem State.clockByte_raised : (s.clockByte).raised = s.raised := by simp [State.clockByte]
@[simp] theorem State.clockByte_front : (s.clockByte).front = s.front := by simp [State.clockByte]
@[simp] theorem State.clockByte_events : (s.clockByte).events = s.events := by simp [State.clockByte]
@[simp] theorem State.clockByte_dec : (s.clockByte).dec = s.dec := by simp [State.clockByte]
@[simp] theorem State.clockByte_restartPending : (s.clockByte).restartPending = s.restartPending := by simp [State.clockByte]
@[simp] theorem State.clockByte_corr : (s.clockByte).corr = s.corr := by simp [State.clockByte]
@[simp] theorem State.clockByte_check : (s.clockByte).check = s.check := by simp [State.clockByte]
@[simp] theorem State.clockByte_archive : (s.clockByte).archive = s.archive := by simp [State.clockByte]
@[simp] theorem State.clockByte_pending : (s.clockByte).pending = s.pending := by simp [State.clockByte]

/-! ### beginWrite -/

@[simp] theorem State.beginWrite_phase : (s.beginWrite).phase = s.phase := by simp [State.beginWrite]
@[simp] theorem State.beginWrite_pins : (s.beginWrite).pins = s.pins := by simp [State.beginWrite]
@[simp] theorem State.beginWrite_store : (s.beginWrite).store = s.store := by simp [State.beginWrite]
@[simp] theorem State.beginWrite_setup : (s.beginWrite).setup = s.setup := by simp [State.beginWrite]
@[simp] theorem State.beginWrite_retention : (s.beginWrite).retention = s.retention := by simp [State.beginWrite]
@[simp] theorem State.beginWrite_tb : (s.beginWrite).tb = s.tb := by simp [State.beginWrite]
@[simp] theorem State.beginWrite_mark : (s.beginWrite).mark = s.mark := by simp [State.beginWrite]
@[simp] theorem State.beginWrite_line : (s.beginWrite).line = s.line := by simp [State.beginWrite]
@[simp] theorem State.beginWrite_member : (s.beginWrite).member = s.member := by simp [State.beginWrite]
@[simp] theorem State.beginWrite_table : (s.beginWrite).table = s.table := by simp [State.beginWrite]
@[simp] theorem State.beginWrite_raised : (s.beginWrite).raised = s.raised := by simp [State.beginWrite]
@[simp] theorem State.beginWrite_front : (s.beginWrite).front = s.front := by simp [State.beginWrite]
@[simp] theorem State.beginWrite_events : (s.beginWrite).events = s.events := by simp [State.beginWrite]
@[simp] theorem State.beginWrite_dec : (s.beginWrite).dec = s.dec := by simp [State.beginWrite]
@[simp] theorem State.beginWrite_restartPending : (s.beginWrite).restartPending = s.restartPending := by simp [State.beginWrite]
@[simp] theorem State.beginWrite_corr : (s.beginWrite).corr = s.corr := by simp [State.beginWrite]
@[simp] theorem State.beginWrite_check : (s.beginWrite).check = s.check := by simp [State.beginWrite]
@[simp] theorem State.beginWrite_port : (s.beginWrite).port = s.port := by simp [State.beginWrite]
@[simp] theorem State.beginWrite_freeReads : (s.beginWrite).freeReads = s.freeReads := by simp [State.beginWrite]
@[simp] theorem State.beginWrite_pending : (s.beginWrite).pending = s.pending := by simp [State.beginWrite]

/-! ### replaceOldest -/

@[simp] theorem State.replaceOldest_phase : (s.replaceOldest).phase = s.phase := by simp [State.replaceOldest]
@[simp] theorem State.replaceOldest_pins : (s.replaceOldest).pins = s.pins := by simp [State.replaceOldest]
@[simp] theorem State.replaceOldest_store : (s.replaceOldest).store = s.store := by simp [State.replaceOldest]
@[simp] theorem State.replaceOldest_setup : (s.replaceOldest).setup = s.setup := by simp [State.replaceOldest]
@[simp] theorem State.replaceOldest_tb : (s.replaceOldest).tb = s.tb := by simp [State.replaceOldest]
@[simp] theorem State.replaceOldest_mark : (s.replaceOldest).mark = s.mark := by simp [State.replaceOldest]
@[simp] theorem State.replaceOldest_line : (s.replaceOldest).line = s.line := by simp [State.replaceOldest]
@[simp] theorem State.replaceOldest_member : (s.replaceOldest).member = s.member := by simp [State.replaceOldest]
@[simp] theorem State.replaceOldest_table : (s.replaceOldest).table = s.table := by simp [State.replaceOldest]
@[simp] theorem State.replaceOldest_raised : (s.replaceOldest).raised = s.raised := by simp [State.replaceOldest]
@[simp] theorem State.replaceOldest_front : (s.replaceOldest).front = s.front := by simp [State.replaceOldest]
@[simp] theorem State.replaceOldest_events : (s.replaceOldest).events = s.events := by simp [State.replaceOldest]
@[simp] theorem State.replaceOldest_dec : (s.replaceOldest).dec = s.dec := by simp [State.replaceOldest]
@[simp] theorem State.replaceOldest_restartPending : (s.replaceOldest).restartPending = s.restartPending := by simp [State.replaceOldest]
@[simp] theorem State.replaceOldest_corr : (s.replaceOldest).corr = s.corr := by simp [State.replaceOldest]
@[simp] theorem State.replaceOldest_check : (s.replaceOldest).check = s.check := by simp [State.replaceOldest]
@[simp] theorem State.replaceOldest_freeReads : (s.replaceOldest).freeReads = s.freeReads := by simp [State.replaceOldest]
@[simp] theorem State.replaceOldest_pending : (s.replaceOldest).pending = s.pending := by simp [State.replaceOldest]

/-! ### writeStart -/

@[simp] theorem State.writeStart_phase : (s.writeStart).phase = s.phase := by
  unfold State.writeStart
  split
  · split
    · simp
    · split
      · simp
      · split <;> simp [State.raise]
  · rfl
@[simp] theorem State.writeStart_pins : (s.writeStart).pins = s.pins := by
  unfold State.writeStart
  split
  · split
    · simp
    · split
      · simp
      · split <;> simp [State.raise]
  · rfl
@[simp] theorem State.writeStart_store : (s.writeStart).store = s.store := by
  unfold State.writeStart
  split
  · split
    · simp
    · split
      · simp
      · split <;> simp [State.raise]
  · rfl
@[simp] theorem State.writeStart_setup : (s.writeStart).setup = s.setup := by
  unfold State.writeStart
  split
  · split
    · simp
    · split
      · simp
      · split <;> simp [State.raise]
  · rfl
@[simp] theorem State.writeStart_tb : (s.writeStart).tb = s.tb := by
  unfold State.writeStart
  split
  · split
    · simp
    · split
      · simp
      · split <;> simp [State.raise]
  · rfl
@[simp] theorem State.writeStart_mark : (s.writeStart).mark = s.mark := by
  unfold State.writeStart
  split
  · split
    · simp
    · split
      · simp
      · split <;> simp [State.raise]
  · rfl
@[simp] theorem State.writeStart_line : (s.writeStart).line = s.line := by
  unfold State.writeStart
  split
  · split
    · simp
    · split
      · simp
      · split <;> simp [State.raise]
  · rfl
@[simp] theorem State.writeStart_member : (s.writeStart).member = s.member := by
  unfold State.writeStart
  split
  · split
    · simp
    · split
      · simp
      · split <;> simp [State.raise]
  · rfl
@[simp] theorem State.writeStart_table : (s.writeStart).table = s.table := by
  unfold State.writeStart
  split
  · split
    · simp
    · split
      · simp
      · split <;> simp [State.raise]
  · rfl
@[simp] theorem State.writeStart_front : (s.writeStart).front = s.front := by
  unfold State.writeStart
  split
  · split
    · simp
    · split
      · simp
      · split <;> simp [State.raise]
  · rfl
@[simp] theorem State.writeStart_events : (s.writeStart).events = s.events := by
  unfold State.writeStart
  split
  · split
    · simp
    · split
      · simp
      · split <;> simp [State.raise]
  · rfl
@[simp] theorem State.writeStart_dec : (s.writeStart).dec = s.dec := by
  unfold State.writeStart
  split
  · split
    · simp
    · split
      · simp
      · split <;> simp [State.raise]
  · rfl
@[simp] theorem State.writeStart_restartPending : (s.writeStart).restartPending = s.restartPending := by
  unfold State.writeStart
  split
  · split
    · simp
    · split
      · simp
      · split <;> simp [State.raise]
  · rfl
@[simp] theorem State.writeStart_corr : (s.writeStart).corr = s.corr := by
  unfold State.writeStart
  split
  · split
    · simp
    · split
      · simp
      · split <;> simp [State.raise]
  · rfl
@[simp] theorem State.writeStart_check : (s.writeStart).check = s.check := by
  unfold State.writeStart
  split
  · split
    · simp
    · split
      · simp
      · split <;> simp [State.raise]
  · rfl
@[simp] theorem State.writeStart_freeReads : (s.writeStart).freeReads = s.freeReads := by
  unfold State.writeStart
  split
  · split
    · simp
    · split
      · simp
      · split <;> simp [State.raise]
  · rfl
@[simp] theorem State.writeStart_pending : (s.writeStart).pending = s.pending := by
  unfold State.writeStart
  split
  · split
    · simp
    · split
      · simp
      · split <;> simp [State.raise]
  · rfl

/-! ### writeComplete -/

@[simp] theorem State.writeComplete_phase : (s.writeComplete).phase = s.phase := by
  unfold State.writeComplete
  split
  · dsimp only
    split <;> simp
  · rfl
@[simp] theorem State.writeComplete_pins : (s.writeComplete).pins = s.pins := by
  unfold State.writeComplete
  split
  · dsimp only
    split <;> simp
  · rfl
@[simp] theorem State.writeComplete_store : (s.writeComplete).store = s.store := by
  unfold State.writeComplete
  split
  · dsimp only
    split <;> simp
  · rfl
@[simp] theorem State.writeComplete_setup : (s.writeComplete).setup = s.setup := by
  unfold State.writeComplete
  split
  · dsimp only
    split <;> simp
  · rfl
@[simp] theorem State.writeComplete_tb : (s.writeComplete).tb = s.tb := by
  unfold State.writeComplete
  split
  · dsimp only
    split <;> simp
  · rfl
@[simp] theorem State.writeComplete_mark : (s.writeComplete).mark = s.mark := by
  unfold State.writeComplete
  split
  · dsimp only
    split <;> simp
  · rfl
@[simp] theorem State.writeComplete_line : (s.writeComplete).line = s.line := by
  unfold State.writeComplete
  split
  · dsimp only
    split <;> simp
  · rfl
@[simp] theorem State.writeComplete_member : (s.writeComplete).member = s.member := by
  unfold State.writeComplete
  split
  · dsimp only
    split <;> simp
  · rfl
@[simp] theorem State.writeComplete_table : (s.writeComplete).table = s.table := by
  unfold State.writeComplete
  split
  · dsimp only
    split <;> simp
  · rfl
@[simp] theorem State.writeComplete_raised : (s.writeComplete).raised = s.raised := by
  unfold State.writeComplete
  split
  · dsimp only
    split <;> simp
  · rfl
@[simp] theorem State.writeComplete_front : (s.writeComplete).front = s.front := by
  unfold State.writeComplete
  split
  · dsimp only
    split <;> simp
  · rfl
@[simp] theorem State.writeComplete_events : (s.writeComplete).events = s.events := by
  unfold State.writeComplete
  split
  · dsimp only
    split <;> simp
  · rfl
@[simp] theorem State.writeComplete_dec : (s.writeComplete).dec = s.dec := by
  unfold State.writeComplete
  split
  · dsimp only
    split <;> simp
  · rfl
@[simp] theorem State.writeComplete_restartPending : (s.writeComplete).restartPending = s.restartPending := by
  unfold State.writeComplete
  split
  · dsimp only
    split <;> simp
  · rfl
@[simp] theorem State.writeComplete_corr : (s.writeComplete).corr = s.corr := by
  unfold State.writeComplete
  split
  · dsimp only
    split <;> simp
  · rfl
@[simp] theorem State.writeComplete_check : (s.writeComplete).check = s.check := by
  unfold State.writeComplete
  split
  · dsimp only
    split <;> simp
  · rfl
@[simp] theorem State.writeComplete_freeReads : (s.writeComplete).freeReads = s.freeReads := by
  unfold State.writeComplete
  split
  · dsimp only
    split <;> simp
  · rfl
@[simp] theorem State.writeComplete_pending : (s.writeComplete).pending = s.pending := by
  unfold State.writeComplete
  split
  · dsimp only
    split <;> simp
  · rfl
end Sys2Proof.Machine
end

