-- ==== Sys2Proof/Laws/Ops.lean ====
section
/-! SUPPORT. What the shared operations do, said once: the arithmetic, the queue, conditions that rise, rows and cells, and the parts of
an own boundary. -/

namespace Sys2Proof.Machine

/-! ### Arithmetic -/

theorem clampInt_eq (lo hi v : Int) (h : lo ≤ hi) : clampInt lo hi v = max lo (min hi v) := by
  unfold clampInt
  split
  · omega
  · split <;> omega

theorem clampCorrection_eq (f : Int) : clampCorrection f = max (-10000) (min 10000 f) := clampInt_eq _ _ _ (by decide)

theorem countUp_eq (limit n : Nat) : countUp limit n = min (n + 1) limit := by
  unfold countUp
  split <;> omega

/-! ### The station's phase -/

theorem State.running_iff (s : State) : s.running = true ↔ s.phase = .running := by simp [State.running]

theorem State.active_iff (s : State) : s.active = true ↔ s.phase = .running ∧ s.member.state ≠ .halted := by
  simp [State.active, State.running]

/-- A command of the timebase, the channels or the port, at work. -/
theorem atWork_running (s : State) (g : State → State) (h : s.phase = .running) : atWork s g = .next (g s) := by
  simp [atWork, State.running, h]

/-- A command of the hut-side units, at work and not HALTED. -/
theorem atHut_active (s : State) (g : State → State) (h : s.phase = .running) (h' : s.member.state ≠ .halted) :
    atHut s g = .next (g s) := by
  simp [atHut, State.active, State.running, h, h']

/-! ### The queue -/

theorem step_cons (c : Instr) (rest : List Instr) (s : State) (h : s.pending = c :: rest) : step s = exec c (s.setPending rest) := by
  simp [step, h]

theorem step_nil (s : State) (h : s.pending = []) : step s = .next s := by simp [step, h]

/-! ### Positions of the epoch -/

@[simp] theorem State.reach_tb (s : State) (tick : Nat) : (s.reach tick).tb = s.tb.reach tick := (rfl)

theorem Timebase.fold_tick (tb : Timebase) (tick : Nat) :
    tb.fold (tick : Int) = if tick < 5000000 then (tick : Int) else (tick : Int) - tb.epochLength := by
  unfold Timebase.fold Config.foldPoint
  by_cases h : tick < 5000000
  · rw [if_pos h, if_neg (by omega)]
  · rw [if_neg h, if_pos (by omega)]

theorem Timebase.windowTaken_tick (tb : Timebase) (tick : Nat) :
    tb.windowTaken (tick : Int) = if tick < 5000000 then tb.windowEdge else tb.nextWindowEdge := by
  unfold Timebase.windowTaken Config.foldPoint
  by_cases h : tick < 5000000
  · rw [if_pos h, if_neg (by omega)]
  · rw [if_neg h, if_pos (by omega)]

theorem Timebase.takeWindow_eq (tb : Timebase) (p : Int) :
    tb.takeWindow p =
      { tb with windowEdge := (tb.takeWindow p).windowEdge, nextWindowEdge := (tb.takeWindow p).nextWindowEdge } := by
  unfold Timebase.takeWindow
  split <;> rfl

theorem inReferenceWindow_iff (phase : Int) : inReferenceWindow phase = true ↔ -1000 ≤ phase ∧ phase ≤ 1000 := by
  simp [inReferenceWindow]

theorem phaseWithin_iff (limit phase : Int) : phaseWithin limit phase = true ↔ -limit ≤ phase ∧ phase ≤ limit := by
  simp [phaseWithin]

theorem inSpan_iff (p : Int) : inSpan p = true ↔ -20000 ≤ p ∧ p < 50000 := by simp [inSpan]

/-! ### Conditions that rise -/

@[simp] theorem State.rise_raised (s : State) (c : ConditionSet) : (s.rise c).raised = s.raised ||| c := (rfl)

@[simp] theorem State.rise_port (s : State) (c : ConditionSet) :
    (s.rise c).port = { s.port with notices := s.port.notices ||| c } := (rfl)

@[simp] theorem State.raise_raised (s : State) (c : Condition) : (s.raise c).raised = s.raised ||| Condition.only c true := (rfl)

@[simp] theorem State.raise_port (s : State) (c : Condition) :
    (s.raise c).port = { s.port with notices := s.port.notices ||| Condition.only c true } := (rfl)

@[simp] theorem State.raiseIf_false (s : State) (c : Condition) : s.raiseIf false c = s := by
  simp [State.raiseIf, Condition.only, State.rise, State.setRaised, State.setPort]

@[simp] theorem State.raiseIf_true (s : State) (c : Condition) : s.raiseIf true c = s.raise c := (rfl)

/-- What holds after a command and held before it does not rise. -/
theorem State.latchFrom_same (after before : State) (h : after.holding = before.holding) : after.latchFrom before = after := by
  simp [State.latchFrom, h, State.rise, State.setRaised, State.setPort]

theorem State.latchFrom_raised (after before : State) :
    (after.latchFrom before).raised = after.raised ||| (after.holding &&& ~~~before.holding) := (rfl)

/-- A latch changes nothing of the port but its notices. -/
theorem State.latchFrom_port (after before : State) :
    (after.latchFrom before).port = { after.port with notices := after.port.notices ||| (after.holding &&& ~~~before.holding) } := (rfl)

/-- A raised condition stays raised through a latch. -/
theorem State.latchFrom_keeps (after before : State) (j : Nat) (h : after.raised.getLsbD j = true) :
    (after.latchFrom before).raised.getLsbD j = true := by
  rw [State.latchFrom_raised, BitVec.getLsbD_or, h, Bool.true_or]

/-- What holds is read from these fields alone. -/
theorem State.holding_congr (a b : State) (h1 : a.front = b.front) (h2 : a.dec = b.dec) (h3 : a.corr = b.corr)
    (h4 : a.setup = b.setup) (h5 : a.events = b.events) (h6 : a.check = b.check) (h7 : a.member.quiet = b.member.quiet) :
    a.holding = b.holding := by
  simp [State.holding, State.saturatedHolds, State.warmingHolds, State.glidingHolds, State.staleTempHolds, State.attendedHolds,
    State.chainLostHolds, State.setupFaultHolds, h1, h2, h3, h4, h5, h6, h7]

/-! ### Rows and cells -/

theorem EpochTable.mapOpen_of_open (t : EpochTable) (g : Row → Row) (r : Row) (h : t.openRow = some r) :
    t.mapOpen g = { t with rows := g r :: t.rows.tail } := by
  unfold EpochTable.openRow at h
  unfold EpochTable.mapOpen
  split at h
  · split at h <;> simp_all
  · simp at h

theorem EpochTable.mapOpen_of_none (t : EpochTable) (g : Row → Row) (h : t.openRow = none) : t.mapOpen g = t := by
  unfold EpochTable.openRow at h
  unfold EpochTable.mapOpen
  split at h
  · split at h <;> simp_all
  · simp_all

theorem EpochTable.openRow_isOpen (t : EpochTable) (r : Row) (h : t.openRow = some r) : r.isOpen = true ∧ t.rows = r :: t.rows.tail := by
  unfold EpochTable.openRow at h
  split at h
  · split at h <;> simp_all
  · simp at h

/-- A change to the open row that leaves it open is read back. -/
theorem EpochTable.openRow_mapOpen (t : EpochTable) (g : Row → Row) (hg : ∀ r, (g r).isOpen = r.isOpen) :
    (t.mapOpen g).openRow = t.openRow.map g := by
  cases h : t.openRow with
  | none => rw [EpochTable.mapOpen_of_none _ _ h]; exact h
  | some r =>
    rw [EpochTable.mapOpen_of_open _ _ _ h]
    simp [EpochTable.openRow, hg, (EpochTable.openRow_isOpen _ _ h).1]

theorem setAt_self {α : Type} {n : Nat} (v : Vector α n) (i : Fin n) (x : α) : (setAt v i x)[i] = x := by
  simp [setAt]

theorem setAt_ne {α : Type} {n : Nat} (v : Vector α n) (i j : Fin n) (x : α) (h : j ≠ i) : (setAt v i x)[j] = v[j] := by
  have h' : i.val ≠ j.val := fun e => h (Fin.ext e.symm)
  simp [setAt, Vector.getElem_set_ne, h']

/-! ### Edges and learning -/

@[simp] theorem qualify_step (tb : Timebase) (drift : Vector DriftBin 16) : (qualify tb drift).step = false := by
  unfold qualify
  split <;> rfl

/-- A bin that is learnt is the current one; the others stay. -/
theorem qualify_drift (tb : Timebase) (drift : Vector DriftBin 16) (h : ¬tb.settleCount < 60) (j : Fin 16) :
    (qualify tb drift).drift[j] = if j = driftBinOf tb.oscTemp then drift[j].learn (tb.f * 100) else drift[j] := by
  unfold qualify
  rw [if_neg h]
  dsimp only
  by_cases hj : j = driftBinOf tb.oscTemp
  · subst hj
    rw [if_pos rfl, setAt_self]
  · rw [if_neg hj, setAt_ne _ _ _ _ hj]

/-! ### Reading the DATA pair -/

theorem bitsNat_byteCells : ∀ b : BitVec 8, byteOfCells ((List.range 8).map b.getLsbD) = b := by decide

/-- Cells read in two parts are read as one. -/
theorem Reception.readCells_append (x : Reception) (a b : List Bool) :
    x.readCells (a ++ b) = (match x.readCells a with
      | .more y => y.readCells b
      | o => o) := by
  induction a generalizing x with
  | nil => rfl
  | cons level rest ih =>
    simp only [List.cons_append, Reception.readCells]
    cases x.readCell level with
    | more y => exact ih y
    | fault y kind => rfl
    | whole y => rfl

/-- The ten cells of a byte, read from its start cell on, give that byte. -/
theorem Reception.readCells_byteCells (x : Reception) (h : x.cells = []) (b : Byte) :
    x.readCells (byteCells b) = x.readByte b := by
  obtain ⟨slot, state, rise, bytes, cells, expected⟩ := x
  simp only at h
  subst h
  simp only [byteCells, List.range, List.range.loop, List.map_cons, List.map_nil, List.cons_append, List.nil_append,
    Reception.readCells, Reception.readCell, if_true, List.length_cons, List.length_nil, Nat.reduceAdd, Nat.reduceLT,
    Bool.false_eq_true, if_false, lt_self_iff_false]
  have e : byteOfCells [b.getLsbD 0, b.getLsbD 1, b.getLsbD 2, b.getLsbD 3, b.getLsbD 4, b.getLsbD 5, b.getLsbD 6, b.getLsbD 7] = b :=
    bitsNat_byteCells b
  rw [e]
  have same : ∀ cells, Reception.readByte ⟨slot, state, rise, bytes, cells, expected⟩ b =
      Reception.readByte ⟨slot, state, rise, bytes, [], expected⟩ b := fun _ => rfl
  simp only [same]
  generalize Reception.readByte _ b = o
  cases o <;> rfl

/-- The reception as an outcome of cells leaves it. -/
def CellOutcome.reception : CellOutcome → Reception
  | .more y => y
  | .fault y _ => y
  | .whole y => y

/-- A cell read raises the count of cells read by one and keeps slot, rise and state; while more cells are awaited, at most nine of the
byte in progress stand read. -/
theorem Reception.readCell_grows (x : Reception) (level : Bool) (h : x.cells.length ≤ 9) :
    (x.readCell level).reception.cellsRead = x.cellsRead + 1 ∧ (x.readCell level).reception.slot = x.slot ∧
      (x.readCell level).reception.rise = x.rise ∧ (x.readCell level).reception.state = x.state ∧
      ∀ y, x.readCell level = .more y → y.cells.length ≤ 9 := by
  obtain ⟨slot, state, rise, bytes, cells, expected⟩ := x
  match cells, h with
  | [], _ => cases level <;> simp [Reception.readCell, CellOutcome.reception, Reception.cellsRead]
  | a :: data, h =>
    simp only [List.length_cons] at h
    by_cases hd : data.length < 8
    · simp [Reception.readCell, hd, CellOutcome.reception, Reception.cellsRead]
      omega
    · have hc : data.length = 8 := by omega
      cases level
      · simp only [Reception.readCell, hd, if_false, Bool.false_eq_true]
        generalize byteOfCells data = b
        unfold Reception.readByte
        simp only
        split
        · split <;> simp [CellOutcome.reception, Reception.cellsRead] <;> omega
        · split <;> simp [CellOutcome.reception, Reception.cellsRead] <;> omega
        · split <;> simp [CellOutcome.reception, Reception.cellsRead] <;> omega
      · simp [Reception.readCell, hd, CellOutcome.reception, Reception.cellsRead]
        omega

/-- Cells read one after another do the same. -/
theorem Reception.readCells_grows (x : Reception) (levels : List Bool) (h : x.cells.length ≤ 9) :
    x.cellsRead ≤ (x.readCells levels).reception.cellsRead ∧ (x.readCells levels).reception.slot = x.slot ∧
      (x.readCells levels).reception.rise = x.rise ∧ (x.readCells levels).reception.state = x.state ∧
      ∀ y, x.readCells levels = .more y → y.cells.length ≤ 9 := by
  induction levels generalizing x with
  | nil => simpa [Reception.readCells, CellOutcome.reception] using h
  | cons level rest ih =>
    have g := x.readCell_grows level h
    rw [Reception.readCells]
    cases hx : x.readCell level with
    | more y =>
      rw [hx] at g
      simp only [CellOutcome.reception] at g
      have i := ih y (g.2.2.2.2 y rfl)
      exact ⟨by simp only; omega, i.2.1.trans g.2.1, i.2.2.1.trans g.2.2.1, i.2.2.2.1.trans g.2.2.2.1, i.2.2.2.2⟩
    | fault y kind =>
      rw [hx] at g
      simp only [CellOutcome.reception] at g
      exact ⟨by simp only [CellOutcome.reception]; omega, g.2.1, g.2.2.1, g.2.2.2.1, by simp⟩
    | whole y =>
      rw [hx] at g
      simp only [CellOutcome.reception] at g
      exact ⟨by simp only [CellOutcome.reception]; omega, g.2.1, g.2.2.1, g.2.2.2.1, by simp⟩

/-- The bytes after a frame's length byte, the last of them the one that makes up the expected cell count, are read whole. -/
theorem Reception.readCells_rest (x : Reception) (rest : List Byte) (n : Nat) (h1 : 2 ≤ x.bytes.length) (h2 : x.cells = [])
    (h3 : x.expected = some (10 * n)) (h4 : x.bytes.length + rest.length = n) (h5 : rest ≠ []) :
    x.readCells (frameCells rest) = .whole { x with bytes := x.bytes ++ rest } := by
  induction rest generalizing x with
  | nil => exact absurd rfl h5
  | cons b rest ih =>
    rw [frameCells, List.flatMap_cons, Reception.readCells_append, Reception.readCells_byteCells x h2]
    have step : x.readByte b =
        if rest = [] then .whole { x with bytes := x.bytes ++ [b] } else .more { x with bytes := x.bytes ++ [b] } := by
      obtain ⟨slot, state, rise, bytes, cells, expected⟩ := x
      simp only at h1 h2 h3 h4
      subst h2 h3
      match bytes, h1 with
      | a :: c :: d, _ =>
        simp only [Reception.readByte, Reception.cellsRead]
        by_cases hr : rest = []
        · subst hr; simp at h4 ⊢; omega
        · have : rest.length ≠ 0 := by simpa using hr
          simp [hr] at h4 ⊢; omega
    rw [step]
    by_cases hr : rest = []
    · simp [hr]
    · simp only [hr, if_false]
      have i := ih { x with bytes := x.bytes ++ [b] } (by simp; omega) h2 h3 (by simp at h4 ⊢; omega) hr
      simp only [frameCells] at i
      rw [i]
      simp

/-! ### Reading the chain -/

/-- Fewer than ten cells leave the word in READING, and the station at the centre of the last of them. -/
theorem State.readWord_partial (s : State) (rise : Int) (cells : List Bool) (h : cells.length < 10) :
    s.readWord rise cells =
      (s.reach (rise + cellCentre (cells.length - 1)).toNat).setMember { s.member with chainRx := .reading rise cells } := by
  unfold State.readWord
  rw [List.take_of_length_le (by omega)]
  simp [h]

/-- With the tenth cell the word is complete, at the centre of its stop cell. -/
theorem State.readWord_whole (s : State) (rise : Int) (cells : List Bool) (h : 10 ≤ cells.length) :
    s.readWord rise cells =
      ((s.reach (rise + 9895).toNat).setMember { s.member with chainAfter := rise + 9895 }).wordComplete (cellsNumber (((cells.take 10).drop 1).take 4))
        (cellsNumber (((cells.take 10).drop 5).take 4)) ((cells.take 10).getD 9 false) := by
  unfold State.readWord
  have e : (cells.take 10).length = 10 := by simp; omega
  dsimp only
  rw [e, if_neg (by omega)]
  rfl

/-! ### The readout port -/

theorem byte_portBits : ∀ b : BitVec 8, byte (bitsNat ((List.range 8).map b.getLsbD)) = b := by decide

theorem bytesOfPortBits_cons (b : Byte) (rest : List Bool) : bytesOfPortBits (portBits b ++ rest) = b :: bytesOfPortBits rest := by
  have e : byte (bitsNat [b.getMsbD 7, b.getMsbD 6, b.getMsbD 5, b.getMsbD 4, b.getMsbD 3, b.getMsbD 2, b.getMsbD 1, b.getMsbD 0]) = b := by
    revert b; decide
  simp only [portBits, List.range, List.range.loop, List.map_cons, List.map_nil, List.cons_append, List.nil_append, bytesOfPortBits, e]

/-- The bits of bytes make those bytes. -/
theorem bytesOfPortBits_flatMap (bytes : List Byte) : bytesOfPortBits (bytes.flatMap portBits) = bytes := by
  induction bytes with
  | nil => rfl
  | cons b rest ih => rw [List.flatMap_cons, bytesOfPortBits_cons, ih]

theorem bytesOfPortBits_length (bits : List Bool) : (bytesOfPortBits bits).length = bits.length / 8 := by
  match bits with
  | a :: b :: c :: d :: e :: f :: g :: h :: rest =>
    have ih := bytesOfPortBits_length rest
    simp only [bytesOfPortBits, List.length_cons, ih]
    omega
  | [] => rfl
  | [_] => simp [bytesOfPortBits]
  | [_, _] => simp [bytesOfPortBits]
  | [_, _, _] => simp [bytesOfPortBits]
  | [_, _, _, _] => simp [bytesOfPortBits]
  | [_, _, _, _, _] => simp [bytesOfPortBits]
  | [_, _, _, _, _, _] => simp [bytesOfPortBits]
  | [_, _, _, _, _, _, _] => simp [bytesOfPortBits]

theorem PortCommand.ofByte_code (c : PortCommand) : PortCommand.ofByte (byte c.code) = some c := by cases c <;> rfl

theorem PortCommand.ofByte_some (b : Byte) (c : PortCommand) (h : PortCommand.ofByte b = some c) : b = byte c.code := by
  revert b; cases c <;> decide

/-- The port in COMMAND awaits every command. -/
theorem Port.awaits_command (p : Port) (c : PortCommand) (h : p.trans = .command) :
    p.awaits c = some { p with trans := .arguments, command := some c, args := [] } := by
  simp [Port.awaits, h, Port.takeByte, PortCommand.ofByte_code]

/-- Outside COMMAND and ARGUMENTS no command is executed. -/
theorem State.execute_idle (s : State) (c : PortCommand) (bits : List Bool) (body : List Byte → State → State)
    (h : s.port.trans ≠ .command) (h' : s.port.trans ≠ .arguments) : s.execute c bits body = .next s := by
  have e : s.port.awaits c = none := by
    unfold Port.awaits
    split <;> first | rfl | (exact absurd ‹_› h) | (exact absurd ‹_› h')
  simp [State.execute, e]

/-- A command with all its argument bits in COMMAND, with no port hold, is carried out on its argument bytes. -/
theorem State.execute_command (s : State) (c : PortCommand) (bits : List Bool) (body : List Byte → State → State)
    (h : s.phase = .running) (h1 : s.port.trans = .command) (h2 : s.port.hold = .none) (h3 : 8 * c.argCount ≤ bits.length) :
    s.execute c bits body = .next (body (bytesOfPortBits (bits.take (8 * c.argCount)))
      (s.setPort (({ s.port with args := bits.take (8 * c.argCount) } : Port).executing c))) := by
  simp [State.execute, State.running, h, Port.awaits_command _ _ h1, h2, Nat.not_lt.mpr h3, Port.executing]

/-- The same while a port hold stands: BUSY. -/
theorem State.execute_busy (s : State) (c : PortCommand) (bits : List Bool) (body : List Byte → State → State)
    (h : s.phase = .running) (h1 : s.port.trans = .command) (h2 : s.port.hold ≠ .none) (h3 : 8 * c.argCount ≤ bits.length) :
    s.execute c bits body = .next (s.setPort
      { ({ s.port with args := bits.take (8 * c.argCount) } : Port).executing c with lastResult := .busy }) := by
  simp [State.execute, State.running, h, Port.awaits_command _ _ h1, h2, Nat.not_lt.mpr h3, Port.executing]

/-- Fewer argument bits than the command has: the transaction stands in ARGUMENTS with them. -/
theorem State.execute_partial (s : State) (c : PortCommand) (bits : List Bool) (body : List Byte → State → State)
    (h : s.phase = .running) (h1 : s.port.trans = .command) (h3 : bits.length < 8 * c.argCount) :
    s.execute c bits body = .next (s.setPort { s.port with trans := .arguments, command := some c, args := bits }) := by
  simp [State.execute, State.running, h, Port.awaits_command _ _ h1, h3]

/-! ### Bytes clocked out -/

/-- Clocking bytes in two parts is clocking them at once. -/
theorem State.clock_add (m n : Nat) (s : State) : State.clock (m + n) s = State.clock n (State.clock m s) := by
  induction m generalizing s with
  | zero => simp [State.clock]
  | succ m ih => rw [Nat.add_right_comm, State.clock, State.clock, ih]

/-- Bytes clocked out change the port and the count of free reads alone. -/
theorem State.clock_frame (n : Nat) (s : State) :
    State.clock n s = (s.setPort (State.clock n s).port).setFreeReads (State.clock n s).freeReads := by
  induction n generalizing s with
  | zero => rfl
  | succ n ih =>
    rw [State.clock, ih]
    unfold State.clockByte State.due State.formImage
    split <;> rfl

@[simp] theorem Port.imageSent_trans (p : Port) (k : Nat) : (p.imageSent k).trans = p.trans := by
  unfold Port.imageSent
  split <;> rfl

@[simp] theorem Port.imageSent_command (p : Port) (k : Nat) : (p.imageSent k).command = p.command := by
  unfold Port.imageSent
  split <;> rfl

@[simp] theorem Port.imageSent_leads (p : Port) (k : Nat) : (p.imageSent k).leads = p.leads := by
  unfold Port.imageSent
  split <;> rfl

@[simp] theorem Port.imageSent_image (p : Port) (k : Nat) : (p.imageSent k).image = p.image := by
  unfold Port.imageSent
  split <;> rfl

@[simp] theorem Port.imageSent_imageIndex (p : Port) (k : Nat) : (p.imageSent k).imageIndex = p.imageIndex := by
  unfold Port.imageSent
  split <;> rfl

@[simp] theorem Port.clockByte_trans (p : Port) (k : Nat) : (p.clockByte k).trans = p.trans := by
  unfold Port.clockByte
  dsimp only
  split
  · rfl
  · split
    · rfl
    · split
      · simp
      · rfl

@[simp] theorem State.clock_trans (n : Nat) (s : State) : (State.clock n s).port.trans = s.port.trans := by
  induction n generalizing s with
  | zero => rfl
  | succ n ih =>
    rw [State.clock, ih]
    unfold State.clockByte State.due State.formImage
    split <;> simp

/-- Data out goes on where the bytes clocked out leave it. -/
theorem State.dataOut_clock (n edges : Nat) (s : State) : (State.clock n s).dataOut edges = s.dataOut (8 * n + edges) := by
  have h : (8 * n + edges) / 8 = n + edges / 8 := by omega
  have h' : (8 * n + edges) % 8 = edges % 8 := by omega
  have hp : (State.clock n s).pins = s.pins := by rw [State.clock_frame]; rfl
  have hr : (State.clock n s).running = s.running := by rw [State.clock_frame]; rfl
  simp only [State.dataOut, h, h', State.clock_add, hp, hr, State.clock_trans]

/-- Outside the stream of READ ENTRIES no image is due. -/
theorem State.due_of_ne (s : State) (h : s.port.command ≠ some .readEntries) : s.due = s := by simp [State.due, h]

/-- Short of the end of an image, or with lead bytes to come, no image is due. -/
theorem State.due_of_between (s : State) (h : 0 < s.port.leads ∨ s.port.betweenImages = false) : s.due = s := by
  unfold State.due
  rw [if_neg]
  rintro ⟨-, -, h1, h2⟩
  rcases h with h | h
  · omega
  · simp [h] at h2

theorem Port.betweenImages_iff (p : Port) : p.betweenImages = true ↔ (p.image.getD []).length ≤ p.imageIndex := by simp [Port.betweenImages]

theorem Port.betweenImages_false (p : Port) : p.betweenImages = false ↔ p.imageIndex < (p.image.getD []).length := by
  simp [Port.betweenImages]

/-- A lead byte is clocked out. -/
theorem State.clockByte_lead (s : State) (h : 0 < s.port.leads) :
    s.clockByte = (s.setPort { s.port with leads := s.port.leads - 1 }).due := by
  unfold State.clockByte Port.clockByte
  rw [if_pos h]

/-- A byte of the image in hand that is not its last. -/
theorem State.clockByte_image (s : State) (h : s.port.leads = 0) (h' : s.port.imageIndex + 1 < (s.port.image.getD []).length) :
    s.clockByte = s.setPort { s.port with imageIndex := s.port.imageIndex + 1 } := by
  have h1 : s.port.betweenImages = false := (Port.betweenImages_false _).2 (by omega)
  have h2 : ¬({ s.port with imageIndex := s.port.imageIndex + 1 } : Port).betweenImages = true := by
    rw [Port.betweenImages_iff]
    dsimp only
    omega
  unfold State.clockByte Port.clockByte
  dsimp only
  rw [if_neg (by omega), if_neg (by simp [h1]), if_neg h2]
  exact State.due_of_between _ (.inr ((Port.betweenImages_false _).2 h'))

/-- The last byte of the image in hand: the cursor moves past the entry that it shows, and the next image is due. -/
theorem State.clockByte_last (s : State) (h : s.port.leads = 0) (h' : s.port.imageIndex + 1 = (s.port.image.getD []).length) :
    s.clockByte =
      (s.setPort (({ s.port with imageIndex := (s.port.image.getD []).length } : Port).imageSent s.retention.oldestKept)).due := by
  have h1 : s.port.betweenImages = false := (Port.betweenImages_false _).2 (by omega)
  have h2 : ({ s.port with imageIndex := s.port.imageIndex + 1 } : Port).betweenImages = true := by
    rw [Port.betweenImages_iff]
    dsimp only
    omega
  unfold State.clockByte Port.clockByte
  dsimp only
  rw [if_neg (by omega), if_neg (by simp [h1]), if_pos h2, h']

/-- Past the end of an image that no other follows nothing moves. -/
theorem State.clockByte_past (s : State) (h : s.port.command ≠ some .readEntries) (h1 : s.port.leads = 0)
    (h2 : (s.port.image.getD []).length ≤ s.port.imageIndex) : s.clockByte = s := by
  have hb : s.port.betweenImages = true := (Port.betweenImages_iff _).2 h2
  unfold State.clockByte Port.clockByte
  dsimp only
  rw [if_neg (by omega), if_pos hb]
  exact State.due_of_ne s h

/-- Lead bytes short of the last are clocked out before anything else moves. -/
theorem State.clock_leads (n : Nat) (s : State) (h : n < s.port.leads) :
    State.clock n s = s.setPort { s.port with leads := s.port.leads - n } := by
  induction n generalizing s with
  | zero => rfl
  | succ n ih =>
    rw [State.clock, State.clockByte_lead s (by omega), State.due_of_between _ (.inl (by simp only [State.setPort_port]; omega)),
      ih _ (by simp only [State.setPort_port]; omega)]
    simp [State.setPort, Nat.sub_sub, Nat.add_comm]

/-- With the last lead byte the first byte of the image is due. -/
theorem State.clock_leadsEnd (s : State) (h : 0 < s.port.leads) :
    State.clock s.port.leads s = (s.setPort { s.port with leads := 0 }).due := by
  obtain ⟨n, hn⟩ : ∃ n, s.port.leads = n + 1 := ⟨s.port.leads - 1, by omega⟩
  rw [hn, State.clock_add, State.clock_leads n s (by omega), State.clock, State.clock, State.clockByte_lead _ (by simp only [State.setPort_port]; omega)]
  have e : s.port.leads - n - 1 = 0 := by omega
  simp [State.setPort, e]

/-- Bytes of the image in hand, short of its end, move its byte index alone. -/
theorem State.clock_image (n : Nat) (s : State) (h : s.port.leads = 0) (h' : s.port.imageIndex + n < (s.port.image.getD []).length) :
    State.clock n s = s.setPort { s.port with imageIndex := s.port.imageIndex + n } := by
  induction n generalizing s with
  | zero => rfl
  | succ n ih =>
    rw [State.clock, State.clockByte_image s h (by omega), ih _ (by simpa using h) (by simp only [State.setPort_port]; omega)]
    simp [State.setPort, Nat.add_comm, Nat.add_left_comm]

/-- With its last byte the image in hand has been sent, the cursor moves past the entry that it shows, and the next image is due. -/
theorem State.clock_imageEnd (n : Nat) (s : State) (h : s.port.leads = 0) (h0 : 0 < n)
    (h' : s.port.imageIndex + n = (s.port.image.getD []).length) :
    State.clock n s =
      (s.setPort (({ s.port with imageIndex := (s.port.image.getD []).length } : Port).imageSent s.retention.oldestKept)).due := by
  obtain ⟨m, rfl⟩ : ∃ m, n = m + 1 := ⟨n - 1, by omega⟩
  rw [State.clock_add, State.clock_image m s h (by omega), State.clock, State.clock,
    State.clockByte_last _ (by simpa using h) (by simp only [State.setPort_port]; omega)]
  rfl

/-- Nor does anything move with more of them. -/
theorem State.clock_past (n : Nat) (s : State) (h : s.port.command ≠ some .readEntries) (h1 : s.port.leads = 0)
    (h2 : (s.port.image.getD []).length ≤ s.port.imageIndex) : State.clock n s = s := by
  induction n with
  | zero => rfl
  | succ n ih => rw [State.clock, State.clockByte_past s h h1 h2, ih]

/-- In the stream of READ ENTRIES, with no lead byte to come and no image in hand, the next image is due. -/
theorem State.due_entries (s : State) (h : s.port.command = some .readEntries) (h1 : s.port.image.isSome = true) (h2 : s.port.leads = 0)
    (h3 : s.port.betweenImages = true) : s.due = s.formImage := by
  unfold State.due
  rw [if_pos ⟨h, h1, h2, h3⟩]

/-- The stream's first image is formed with the last lead byte, and bytes after it are that image's. -/
theorem State.clock_entry (n : Nat) (s : State) (h : s.port.command = some .readEntries) (h1 : s.port.image.isSome = true)
    (h2 : s.port.betweenImages = true) (h3 : 0 < s.port.leads) :
    State.clock (s.port.leads + n) s = State.clock n (s.setPort { s.port with leads := 0 }).formImage := by
  rw [State.clock_add, State.clock_leadsEnd s h3]
  exact congrArg (State.clock n) (State.due_entries _ h h1 rfl h2)

/-- Every entry image has 61 bytes. -/
theorem entryImageBytes_length (seq : Nat) (status : ReadStatus) (tail : List Byte) : (entryImageBytes seq status tail).length = 61 := by
  simp [entryImageBytes, uField, leBytes, padTo]

theorem padTo_length (n : Nat) (bytes : List Byte) : (padTo n bytes).length = n := by simp [padTo]

/-- Bytes that fill their field stand as they are. -/
theorem padTo_of_length (n : Nat) (bytes : List Byte) (h : bytes.length = n) : padTo n bytes = bytes := by
  subst h
  exact List.take_left

/-- Padding that is cut off and added again is the same padding. -/
theorem padTo_take (n k : Nat) (bytes : List Byte) (h : bytes.length ≤ k ∨ n ≤ k) : padTo n ((padTo n bytes).take k) = padTo n bytes := by
  apply List.ext_getElem
  · simp [padTo_length]
  · intro i h1 h2
    simp only [padTo_length] at h1
    simp only [padTo, List.getElem_take, List.getElem_append, List.length_take, List.length_append, List.length_replicate,
      List.getElem_replicate]
    split
    · rfl
    · split
      · omega
      · rfl

/-- The byte of an entry's mark kind, flags and own cell state leaves its unassigned bit 7 clear. -/
theorem Entry.markByte_and (e : Entry) :
    byte (e.markKind.code + 4 * flag e.cut + 8 * flag e.marker + 16 * e.ownCell.code) &&& 0x7F#8 =
      byte (e.markKind.code + 4 * flag e.cut + 8 * flag e.marker + 16 * e.ownCell.code) := by
  cases e.markKind <;> cases e.cut <;> cases e.marker <;> cases e.ownCell <;> decide

/-- An entry's own fields have their unassigned bit and the bytes after the body 0 already. -/
theorem entryFields_tail (e : Entry) : entryFields e.tail = e.tail := by
  have whole : e.tail.length = 56 := by simp [Entry.tail, leBytes, uField, padTo]
  have body : padTo 48 ((padTo 48 e.body).take (min e.body.length 255 % 256)) = padTo 48 e.body :=
    padTo_take _ _ _ (by omega)
  unfold entryFields
  dsimp only
  rw [padTo_of_length _ _ whole]
  unfold Entry.tail
  generalize padTo 48 e.body = p at body ⊢
  simp [leBytes, uField]
  exact ⟨e.markByte_and, body⟩

theorem State.nextEntryImage_length (s : State) : s.nextEntryImage.bytes.length = 61 := by
  unfold State.nextEntryImage
  split
  · exact entryImageBytes_length _ _ _
  · split <;> exact entryImageBytes_length _ _ _

/-- A lead byte is 0x00. -/
theorem State.outByte_leads (n : Nat) (s : State) (h : n < s.port.leads) : (State.clock n s).outByte = 0 := by
  rw [State.clock_leads n s h]
  have hl : ¬(s.port.leads - n = 0) := by omega
  simp [State.outByte, hl]

/-- A byte of the image in hand is sent as it stands in it. -/
theorem State.outByte_image (n : Nat) (s : State) (h : s.port.trans = .response) (h1 : s.port.leads = 0)
    (h2 : s.port.imageIndex + n < (s.port.image.getD []).length) :
    (State.clock n s).outByte = (s.port.image.getD []).getD (s.port.imageIndex + n) 0 := by
  rw [State.clock_image n s h1 h2]
  exact if_pos ⟨h, h1⟩

theorem portBits_getD (b : Byte) (e : Nat) (h : e < 8) : (portBits b).getD e false = b.getLsbD (7 - e) := by
  revert b
  interval_cases e <;> decide

/-- In RESPONSE data out drives the bits of the byte that is due, bit 7 first. -/
theorem State.dataOut_response (s : State) (edges : Nat) (h : s.phase = .running) (h1 : s.pins.selectLow = true)
    (h2 : s.port.trans = .response) :
    s.dataOut edges = some ((State.clock (edges / 8) s).outByte.getLsbD (7 - edges % 8)) := by
  rw [← portBits_getD _ _ (Nat.mod_lt edges (by decide : 8 > 0))]
  simp [State.dataOut, h1, State.running, h, h2]

/-- What a response sends byte by byte: the lead bytes, the image from its byte index on, and 0x00 after it (R178). -/
theorem State.outByte_clock (n : Nat) (s : State) (h : s.port.command ≠ some .readEntries) (h1 : s.port.trans = .response) :
    (State.clock n s).outByte =
      if n < s.port.leads then 0 else (s.port.image.getD []).getD (s.port.imageIndex + (n - s.port.leads)) 0 := by
  split
  · rename_i hn
    exact State.outByte_leads n s hn
  · rename_i hn
    obtain ⟨m, rfl⟩ : ∃ m, n = s.port.leads + m := ⟨n - s.port.leads, by omega⟩
    have start : State.clock s.port.leads s = s.setPort { s.port with leads := 0 } := by
      by_cases hl : s.port.leads = 0
      · rw [hl, State.clock, ← hl]
        rfl
      · rw [State.clock_leadsEnd s (by omega)]
        exact State.due_of_ne _ h
    rw [State.clock_add, start, Nat.add_sub_cancel_left]
    generalize hu : s.setPort { s.port with leads := 0 } = u
    have hc : u.port.command ≠ some .readEntries := by subst hu; simpa using h
    have ht : u.port.trans = .response := by subst hu; simpa using h1
    have hl : u.port.leads = 0 := by subst hu; rfl
    have hi : u.port.image = s.port.image := by subst hu; rfl
    have hx : u.port.imageIndex = s.port.imageIndex := by subst hu; rfl
    rw [← hi, ← hx]
    by_cases c1 : u.port.imageIndex + m < (u.port.image.getD []).length
    · exact State.outByte_image m u ht hl c1
    · rw [List.getD_eq_default _ _ (by omega)]
      by_cases c2 : (u.port.image.getD []).length ≤ u.port.imageIndex
      · rw [State.clock_past m u hc hl c2, State.outByte, if_pos ⟨ht, hl⟩, List.getD_eq_default _ _ c2]
      · obtain ⟨a, rfl⟩ : ∃ a, m = ((u.port.image.getD []).length - u.port.imageIndex) + a :=
          ⟨m - ((u.port.image.getD []).length - u.port.imageIndex), by omega⟩
        rw [State.clock_add, State.clock_imageEnd _ u hl (by omega) (by omega), State.due_of_ne _ (by simpa using hc),
          State.clock_past _ _ (by simpa using hc) (by simpa using hl) (by simp)]
        simp [State.outByte, hl]

/-! ### An own boundary -/

theorem State.blocksAtBoundary_line_eq (s : State) (v : BoundaryView) (b : Bool) :
    (s.blocksAtBoundary v b).line = { s.line with summaryDriveEnd := 0, summaryRise := none, summaryStored := false } := by
  simp [State.blocksAtBoundary, State.lineBoundary]

theorem State.blocksAtBoundary_member_eq (s : State) (v : BoundaryView) (b : Bool) :
    (s.blocksAtBoundary v b).member = s.member.boundary (b && chained s.setup s.member) v.shift := by
  simp [State.blocksAtBoundary, State.lineBoundary]

theorem State.blocksAtBoundary_mark_eq (s : State) (v : BoundaryView) (b : Bool) :
    (s.blocksAtBoundary v b).mark = (s.markBoundary v).mark := by
  simp [State.blocksAtBoundary]

/-- A boundary changes nothing of the port but its notices. -/
theorem State.blocksAtBoundary_port_eq (s : State) (v : BoundaryView) (b : Bool) :
    (s.blocksAtBoundary v b).port = { s.port with notices := (s.blocksAtBoundary v b).port.notices } := by
  simp only [State.blocksAtBoundary, State.correctionBoundary_port, State.channelBoundary_port, State.openRow_port,
    State.lineBoundary_port]
  unfold State.markBoundary
  split
  · rfl
  · dsimp only
    rfl

theorem State.blocksAtBoundary_table_eq (s : State) (v : BoundaryView) (b : Bool) :
    (s.blocksAtBoundary v b).table = s.table.openNew (Row.opened s.tb.epochNumber (s.markBoundary v).mark.currentLeader
      (match v.kind with
        | .counted => s.table.early
        | .referenceStep | .markStep => v.cause)) := by
  simp only [State.blocksAtBoundary, State.openRow, State.correctionBoundary_table, State.channelBoundary_table, State.setTable_table,
    State.lineBoundary_tb, State.lineBoundary_mark, State.lineBoundary_table, State.markBoundary_tb, State.markBoundary_table]
  all_goals rfl

/-! ### The row close -/

theorem State.closeBlocks_tb_eq (s : State) (cut : Bool) (collected : TimeState) (r : Row) :
    (s.closeBlocks cut collected r).tb =
      (s.tb.close cut collected (r.leadersReport s.member.number) r.epoch ((s.member.close r).leads r.elect)).tb := by
  unfold State.closeBlocks
  dsimp only
  split <;> simp [State.raiseIf]

theorem State.closeBlocks_mark_eq (s : State) (cut : Bool) (collected : TimeState) (r : Row) :
    (s.closeBlocks cut collected r).mark = s.mark.close r := by
  unfold State.closeBlocks
  dsimp only
  split <;> simp [State.raiseIf]

theorem State.closeBlocks_member_eq (s : State) (cut : Bool) (collected : TimeState) (r : Row) :
    (s.closeBlocks cut collected r).member = s.member.close r := by
  unfold State.closeBlocks
  dsimp only
  split <;> simp [State.raiseIf]

theorem State.closeBlocks_check_eq (s : State) (cut : Bool) (collected : TimeState) (r : Row) :
    (s.closeBlocks cut collected r).check = s.check.close s.setup.check (r.evaluate s.member.number s.setup.check.reference) := by
  unfold State.closeBlocks
  dsimp only
  split <;> simp [State.raiseIf]

theorem State.closeBlocks_events_eq (s : State) (cut : Bool) (collected : TimeState) (r : Row) :
    (s.closeBlocks cut collected r).events = { s.events with edgeSeen := false } := by
  unfold State.closeBlocks
  dsimp only
  split <;> simp [State.raiseIf]

/-- What the archive does at a close reads nothing that the other blocks change. -/
theorem State.archiveClose_retention_eq (s : State) (r : Row) (own : Option Station) (edge : Bool) :
    (s.archiveClose r own edge).retention =
      if s.retention.nextSeq < maxCount32 then { s.retention with nextSeq := s.retention.nextSeq + 1 } else s.retention := by
  unfold State.archiveClose
  dsimp only
  split <;> simp

theorem State.archiveClose_archive_eq (s : State) (r : Row) (own : Option Station) (edge : Bool) :
    (s.archiveClose r own edge).archive =
      if s.retention.nextSeq < maxCount32 then s.archive.join (formEntry s.retention.nextSeq r own edge) else s.archive := by
  unfold State.archiveClose
  dsimp only
  split <;> simp

theorem State.closeBlocks_retention_eq (s : State) (cut : Bool) (collected : TimeState) (r : Row) :
    (s.closeBlocks cut collected r).retention =
      if s.member.state = .member ∧ s.retention.nextSeq < maxCount32 then
        { s.retention with nextSeq := s.retention.nextSeq + 1 }
      else s.retention := by
  unfold State.closeBlocks
  dsimp only
  split <;> simp_all [State.archiveClose_retention_eq, State.raiseIf]

theorem State.closeBlocks_archive_eq (s : State) (cut : Bool) (collected : TimeState) (r : Row) :
    (s.closeBlocks cut collected r).archive =
      if s.member.state = .member ∧ s.retention.nextSeq < maxCount32 then
        s.archive.join (formEntry s.retention.nextSeq r s.member.number s.events.edgeSeen)
      else s.archive := by
  unfold State.closeBlocks
  dsimp only
  split <;> simp_all [State.archiveClose_archive_eq, State.raiseIf]

theorem State.closeRow_of_none (s : State) (cut : Bool) (collected : TimeState) (h : s.table.openRow = none) :
    s.closeRow cut collected = s := by
  simp [State.closeRow, h]

/-- The row that a close leaves. -/
theorem State.closeRow_of_halted (s : State) (cut : Bool) (collected : TimeState) (r : Row) (h : s.table.openRow = some r)
    (h' : s.member.state = .halted) :
    s.closeRow cut collected = s.setTable (s.table.mapOpen fun _ => { r with isOpen := false, cut := cut }) := by
  simp [State.closeRow, h, h']

theorem State.closeRow_of_open (s : State) (cut : Bool) (collected : TimeState) (r : Row) (h : s.table.openRow = some r)
    (h' : s.member.state ≠ .halted) :
    s.closeRow cut collected =
      (s.setTable (s.table.mapOpen fun _ => { r with isOpen := false, cut := cut })).closeBlocks cut collected
        { r with isOpen := false, cut := cut } := by
  simp [State.closeRow, h, h']

/-- The timebase after a close of an open row, in terms of the station before it. -/
theorem State.closeRow_tb_eq (s : State) (cut : Bool) (collected : TimeState) (r : Row) (h : s.table.openRow = some r)
    (h' : s.member.state ≠ .halted) :
    (s.closeRow cut collected).tb =
      (s.tb.close cut collected (r.leadersReport s.member.number) r.epoch ((s.member.close r).leads r.elect)).tb := by
  rw [State.closeRow_of_open s cut collected r h h', State.closeBlocks_tb_eq]
  rfl

theorem State.closeRow_mark_eq (s : State) (cut : Bool) (collected : TimeState) (r : Row) (h : s.table.openRow = some r)
    (h' : s.member.state ≠ .halted) : (s.closeRow cut collected).mark = s.mark.close r := by
  rw [State.closeRow_of_open s cut collected r h h', State.closeBlocks_mark_eq]
  rfl

theorem State.closeRow_member_eq (s : State) (cut : Bool) (collected : TimeState) (r : Row) (h : s.table.openRow = some r)
    (h' : s.member.state ≠ .halted) : (s.closeRow cut collected).member = s.member.close r := by
  rw [State.closeRow_of_open s cut collected r h h', State.closeBlocks_member_eq]
  rfl

/-- The rows after a close: the open row is closed with its cut flag, and the others stay. -/
theorem State.closeRow_table_eq (s : State) (cut : Bool) (collected : TimeState) (r : Row) (h : s.table.openRow = some r) :
    (s.closeRow cut collected).table =
      { s.table with rows := { r with isOpen := false, cut := cut } :: s.table.rows.tail } := by
  by_cases h' : s.member.state = .halted
  · rw [State.closeRow_of_halted s cut collected r h h', State.setTable_table, EpochTable.mapOpen_of_open _ _ _ h]
  · rw [State.closeRow_of_open s cut collected r h h', State.closeBlocks_table, State.setTable_table, EpochTable.mapOpen_of_open _ _ _ h]

/-- A close outside FOLLOWING and FOLLOW_ACQUIRE moves only the leader's rank, the source age and the numbers. -/
theorem Timebase.close_eq (tb : Timebase) (cut : Bool) (collected : TimeState) (leaders : Option Report) (rowEpoch : EpochNumber)
    (leads : Bool) (h : tb.timeState ≠ .following) (h' : tb.timeState ≠ .followAcquire) :
    (tb.close cut collected leaders rowEpoch leads).tb =
      { tb with
        leaderRank := leaders.map Report.rank
        sourceAge := ageAfterClose collected tb.sourceAge leaders
        held := (tb.close cut collected leaders rowEpoch leads).tb.held
        epochNumber := (tb.close cut collected leaders rowEpoch leads).tb.epochNumber
        numberFrom := (tb.close cut collected leaders rowEpoch leads).tb.numberFrom } := by
  have keep : ∀ x : Timebase, x.timeState = tb.timeState → x.lead leads = x := by
    intro x hx
    unfold Timebase.lead
    split
    · split <;> simp_all
    · rfl
  unfold Timebase.close
  dsimp only
  split
  · split
    · rw [keep]
      rfl
    · unfold Timebase.relabel
      split <;> split <;> (dsimp only; rw [keep]) <;> rfl
  · rw [keep]
    rfl

/-! ### What has risen stays raised -/

theorem State.raiseIf_keeps (s : State) (b : Bool) (c : Condition) (j : Nat)
    (h : s.raised.getLsbD j = true ∧ s.port.notices.getLsbD j = true) :
    (s.raiseIf b c).raised.getLsbD j = true ∧ (s.raiseIf b c).port.notices.getLsbD j = true := by
  simp [State.raiseIf, h.1, h.2]

theorem State.archiveClose_keeps (s : State) (r : Row) (own : Option Station) (edge : Bool) (j : Nat)
    (h : s.raised.getLsbD j = true ∧ s.port.notices.getLsbD j = true) :
    (s.archiveClose r own edge).raised.getLsbD j = true ∧ (s.archiveClose r own edge).port.notices.getLsbD j = true := by
  unfold State.archiveClose
  dsimp only
  split
  · exact h
  · simp [h.1, h.2]

theorem State.closeRow_keeps (s : State) (cut : Bool) (collected : TimeState) (j : Nat)
    (h : s.raised.getLsbD j = true ∧ s.port.notices.getLsbD j = true) :
    (s.closeRow cut collected).raised.getLsbD j = true ∧ (s.closeRow cut collected).port.notices.getLsbD j = true := by
  unfold State.closeRow
  split
  · exact h
  · dsimp only
    split
    · exact h
    · unfold State.closeBlocks
      dsimp only
      generalize Timebase.close _ _ _ _ _ _ = time
      generalize Member.close _ _ = member
      generalize FieldCheck.close _ _ _ = check
      split
      · refine State.archiveClose_keeps _ _ _ _ _ (State.raiseIf_keeps _ _ _ _ ?_)
        simpa using h
      · refine State.raiseIf_keeps _ _ _ _ ?_
        simpa using h

theorem State.blocksAtBoundary_keeps (s : State) (v : BoundaryView) (b : Bool) (j : Nat)
    (h : s.raised.getLsbD j = true ∧ s.port.notices.getLsbD j = true) :
    (s.blocksAtBoundary v b).raised.getLsbD j = true ∧ (s.blocksAtBoundary v b).port.notices.getLsbD j = true := by
  simp only [State.blocksAtBoundary, State.correctionBoundary_port, State.channelBoundary_port, State.openRow_port,
    State.lineBoundary_port, State.correctionBoundary_raised, State.channelBoundary_raised, State.openRow_raised,
    State.lineBoundary_raised]
  unfold State.markBoundary
  split
  · exact h
  · refine State.raiseIf_keeps _ _ _ _ ?_
    simpa using h

/-- A step raises TIME_STEP (R7). -/
theorem State.stepTo_raises (s : State) (kind : BoundaryKind) (cause : Option (MarkKind × Int)) (collected : TimeState) (shift : Int)
    (tick : Nat) (temp : Int) (others : Bool) :
    (s.stepTo kind cause collected shift tick temp others).raised.getLsbD 0 = true ∧
      (s.stepTo kind cause collected shift tick temp others).port.notices.getLsbD 0 = true := by
  unfold State.stepTo
  apply State.blocksAtBoundary_keeps
  apply State.closeRow_keeps
  simp [Condition.only, Condition.bit]

end Sys2Proof.Machine
end

