-- ==== Sys2Proof/Laws/Start.lean ====
section
/-! SUPPORT. What the operations of a start make of each field of State: the blank state, the beginning, the values after start, and the
first own boundary. -/

namespace Sys2Proof.Machine

variable (s : State)

@[simp] theorem State.blank_phase (p : Phase) : (s.blank p).phase = p := (rfl)
@[simp] theorem State.blank_pins (p : Phase) : (s.blank p).pins = s.pins := (rfl)
@[simp] theorem State.blank_store (p : Phase) : (s.blank p).store = { s.store with writing := none } := (rfl)
@[simp] theorem State.blank_setup (p : Phase) : (s.blank p).setup = Setup.halted := (rfl)
@[simp] theorem State.blank_retention (p : Phase) : (s.blank p).retention = s.retention := (rfl)
@[simp] theorem State.blank_tb (p : Phase) : (s.blank p).tb = Timebase.afterStart 0 0 := (rfl)
@[simp] theorem State.blank_mark (p : Phase) : (s.blank p).mark = MarkUnit.afterStart := (rfl)
@[simp] theorem State.blank_line (p : Phase) : (s.blank p).line = DataLine.afterStart := (rfl)
@[simp] theorem State.blank_member (p : Phase) : (s.blank p).member = Member.afterStart false none .halted := (rfl)
@[simp] theorem State.blank_table (p : Phase) : (s.blank p).table = EpochTable.afterStart := (rfl)
@[simp] theorem State.blank_raised (p : Phase) : (s.blank p).raised = 0 := (rfl)
@[simp] theorem State.blank_front (p : Phase) : (s.blank p).front = Vector.replicate 4 (FrontEnd.afterStart 0) := (rfl)
@[simp] theorem State.blank_events (p : Phase) : (s.blank p).events = EventInputs.afterStart (Vector.replicate 2 false) := (rfl)
@[simp] theorem State.blank_dec (p : Phase) : (s.blank p).dec = Vector.replicate 4 DecChannel.afterStart := (rfl)
@[simp] theorem State.blank_restartPending (p : Phase) : (s.blank p).restartPending = false := (rfl)
@[simp] theorem State.blank_corr (p : Phase) : (s.blank p).corr = Vector.replicate 4 (CorrChannel.afterStart ChannelSetup.off) := (rfl)
@[simp] theorem State.blank_check (p : Phase) : (s.blank p).check = FieldCheck.afterStart := (rfl)
@[simp] theorem State.blank_archive (p : Phase) : (s.blank p).archive = Archive.afterStart := (rfl)
@[simp] theorem State.blank_port (p : Phase) : (s.blank p).port = Port.afterStart s.retention.oldestKept := (rfl)
@[simp] theorem State.blank_freeReads (p : Phase) : (s.blank p).freeReads = s.freeReads := (rfl)
@[simp] theorem State.blank_pending (p : Phase) : (s.blank p).pending = s.pending := (rfl)

@[simp] theorem State.beginStart_phase : s.beginStart.phase = if s.pins.resetAsserted then .held else .starting := by
  unfold State.beginStart; split <;> simp
@[simp] theorem State.beginStart_pins : s.beginStart.pins = s.pins := by
  unfold State.beginStart; split <;> simp
@[simp] theorem State.beginStart_store : s.beginStart.store = { s.store with writing := none } := by
  unfold State.beginStart; split <;> simp
@[simp] theorem State.beginStart_setup :
    s.beginStart.setup = if s.pins.resetAsserted then Setup.halted else setupOfRecord s.store.stored := by
  unfold State.beginStart; split <;> simp
@[simp] theorem State.beginStart_retention : s.beginStart.retention = s.retention := by
  unfold State.beginStart; split <;> simp
@[simp] theorem State.beginStart_tb : s.beginStart.tb = Timebase.afterStart 0 0 := by
  unfold State.beginStart; split <;> simp
@[simp] theorem State.beginStart_mark : s.beginStart.mark = MarkUnit.afterStart := by
  unfold State.beginStart; split <;> simp
@[simp] theorem State.beginStart_line : s.beginStart.line = DataLine.afterStart := by
  unfold State.beginStart; split <;> simp
@[simp] theorem State.beginStart_member : s.beginStart.member = Member.afterStart false none .halted := by
  unfold State.beginStart; split <;> simp
@[simp] theorem State.beginStart_table : s.beginStart.table = EpochTable.afterStart := by
  unfold State.beginStart; split <;> simp
@[simp] theorem State.beginStart_raised : s.beginStart.raised = 0 := by
  unfold State.beginStart; split <;> simp
@[simp] theorem State.beginStart_front : s.beginStart.front = Vector.replicate 4 (FrontEnd.afterStart 0) := by
  unfold State.beginStart; split <;> simp
@[simp] theorem State.beginStart_events : s.beginStart.events = EventInputs.afterStart (Vector.replicate 2 false) := by
  unfold State.beginStart; split <;> simp
@[simp] theorem State.beginStart_dec : s.beginStart.dec = Vector.replicate 4 DecChannel.afterStart := by
  unfold State.beginStart; split <;> simp
@[simp] theorem State.beginStart_restartPending : s.beginStart.restartPending = false := by
  unfold State.beginStart; split <;> simp
@[simp] theorem State.beginStart_corr : s.beginStart.corr = Vector.replicate 4 (CorrChannel.afterStart ChannelSetup.off) := by
  unfold State.beginStart; split <;> simp
@[simp] theorem State.beginStart_check : s.beginStart.check = FieldCheck.afterStart := by
  unfold State.beginStart; split <;> simp
@[simp] theorem State.beginStart_archive : s.beginStart.archive = Archive.afterStart := by
  unfold State.beginStart; split <;> simp
@[simp] theorem State.beginStart_port : s.beginStart.port = Port.afterStart s.retention.oldestKept := by
  unfold State.beginStart; split <;> simp
@[simp] theorem State.beginStart_freeReads : s.beginStart.freeReads = s.freeReads := by
  unfold State.beginStart; split <;> simp
@[simp] theorem State.beginStart_pending : s.beginStart.pending = s.pending := by
  unfold State.beginStart; split <;> simp

@[simp] theorem State.startValues_phase (x : StartSamples) : (s.startValues x).phase = .running := (rfl)
@[simp] theorem State.startValues_store (x : StartSamples) : (s.startValues x).store = { s.store with writing := none } := (rfl)
@[simp] theorem State.startValues_setup (x : StartSamples) : (s.startValues x).setup = s.setup := (rfl)
@[simp] theorem State.startValues_retention (x : StartSamples) : (s.startValues x).retention = s.retention := (rfl)
@[simp] theorem State.startValues_mark (x : StartSamples) : (s.startValues x).mark = MarkUnit.afterStart := (rfl)
@[simp] theorem State.startValues_line (x : StartSamples) : (s.startValues x).line = DataLine.afterStart := (rfl)
@[simp] theorem State.startValues_table (x : StartSamples) : (s.startValues x).table = EpochTable.afterStart := (rfl)
@[simp] theorem State.startValues_raised (x : StartSamples) : (s.startValues x).raised = 0 := (rfl)
@[simp] theorem State.startValues_dec (x : StartSamples) : (s.startValues x).dec = Vector.replicate 4 DecChannel.afterStart := (rfl)
@[simp] theorem State.startValues_restartPending (x : StartSamples) : (s.startValues x).restartPending = false := (rfl)
@[simp] theorem State.startValues_check (x : StartSamples) : (s.startValues x).check = FieldCheck.afterStart := (rfl)
@[simp] theorem State.startValues_archive (x : StartSamples) : (s.startValues x).archive = Archive.afterStart := (rfl)
@[simp] theorem State.startValues_port (x : StartSamples) : (s.startValues x).port = Port.afterStart s.retention.oldestKept := (rfl)
@[simp] theorem State.startValues_freeReads (x : StartSamples) : (s.startValues x).freeReads = s.freeReads := (rfl)
@[simp] theorem State.startValues_pending (x : StartSamples) : (s.startValues x).pending = s.pending := (rfl)

@[simp] theorem State.firstBoundary_phase : s.firstBoundary.phase = s.phase := by simp [State.firstBoundary]
@[simp] theorem State.firstBoundary_pins : s.firstBoundary.pins = s.pins := by simp [State.firstBoundary]
@[simp] theorem State.firstBoundary_store : s.firstBoundary.store = s.store := by simp [State.firstBoundary]
@[simp] theorem State.firstBoundary_setup : s.firstBoundary.setup = s.setup := by simp [State.firstBoundary]
@[simp] theorem State.firstBoundary_retention : s.firstBoundary.retention = s.retention := by simp [State.firstBoundary]
@[simp] theorem State.firstBoundary_check : s.firstBoundary.check = s.check := by simp [State.firstBoundary]
@[simp] theorem State.firstBoundary_archive : s.firstBoundary.archive = s.archive := by simp [State.firstBoundary]
@[simp] theorem State.firstBoundary_freeReads : s.firstBoundary.freeReads = s.freeReads := by simp [State.firstBoundary]
@[simp] theorem State.firstBoundary_pending : s.firstBoundary.pending = s.pending := by simp [State.firstBoundary]

@[simp] theorem State.completeStart_phase (x : StartSamples) : (s.completeStart x).phase = .running := by simp [State.completeStart]
@[simp] theorem State.completeStart_store (x : StartSamples) : (s.completeStart x).store = { s.store with writing := none } := by simp [State.completeStart]
@[simp] theorem State.completeStart_setup (x : StartSamples) : (s.completeStart x).setup = s.setup := by simp [State.completeStart]
@[simp] theorem State.completeStart_retention (x : StartSamples) : (s.completeStart x).retention = s.retention := by simp [State.completeStart]
@[simp] theorem State.completeStart_check (x : StartSamples) : (s.completeStart x).check = FieldCheck.afterStart := by simp [State.completeStart]
@[simp] theorem State.completeStart_archive (x : StartSamples) : (s.completeStart x).archive = Archive.afterStart := by simp [State.completeStart]
@[simp] theorem State.completeStart_freeReads (x : StartSamples) : (s.completeStart x).freeReads = s.freeReads := by simp [State.completeStart]
@[simp] theorem State.completeStart_pending (x : StartSamples) : (s.completeStart x).pending = s.pending := by simp [State.completeStart]

end Sys2Proof.Machine
end

