-- ==== Sys2Proof/Tests/Slice0.lean ====
section
/-! SUPPORT. Tests: the operand checks refuse ill-formed commands, the manual's worked examples come out, every command completes on a
small state, and the hypotheses of each statement are met by a concrete state (the witnesses). -/

namespace Sys2Proof.Tests

open Sys2Proof.Machine

/-! ### Small states -/

/-- A station at work whose record was rejected. -/
def halted : State := { State.reset with phase := .running }

/-- Settings in force of an accepted record: CHAIN numbering, the reference enabled, and every channel OFF. -/
def plainSetup : Setup := { Setup.halted with rejected := false, referenceEnable := true }

/-- Station 3 at work in a membership state, with an open row whose leader is station 1. -/
def station (state : Membership) : State :=
  { halted with setup := plainSetup, member := Member.afterStart false (some 2) state
                table := { rows := [Row.opened 7 (some 0) none], early := none } }

/-- The station in a time state, with f as the manual's first example has it. -/
def inTime (ts : TimeState) : State :=
  { station .member with tb := { Timebase.afterStart 2365 9300 with timeState := ts, sourceAge := 9 } }

/-- Station 3 with a pulse in progress. -/
def pulsed (ts : TimeState) (rise : Int) : State :=
  { inTime ts with mark := { MarkUnit.afterStart with pulse := some { rise := rise, classified := false } }
                   pins := { Pins.quiet with markAsserted := true } }

/-- A report of a station with a rank and a led flag. -/
def reportOf (k rank : Nat) (led : Bool) : Report :=
  { station := k, epoch := 7, timeState := .following, rank := rank, led := led, sourceAge := 0, markPhase := -32768,
    conditions := 0, entries := [], deltaF := none }

/-- A RECEIVED cell. -/
def cellOf (r : Report) : Cell := { state := .received, damage := none, report := some r, own := false }

/-- Row 501 of the manual's three-station hut: the leader, station 1, is silent, and stations 2 and 3 report rank 1. -/
def row501 : Row :=
  { Row.opened 501 (some 0) (some (.fallback, -290)) with
      summaryOr := 4, cells := setAt (setAt (Vector.replicate 8 Cell.empty) 1 (cellOf (reportOf 2 1 false))) 2 (cellOf (reportOf 3 1 false)) }

/-- A transaction that awaits its command. -/
def awaiting (s : State) : State := { s with port := { s.port with trans := .command } }

/-- The argument bits that bytes make on data in, bit 7 of each first. -/
def bitsOf (bytes : List Byte) : List Bool := bytes.flatMap portBits

/-- A vector channel of the manual's substorm example: w = 1, U = 5,000,000, T = 3,000,000. -/
def vectorSetup : ChannelSetup :=
  { ChannelSetup.off with kind := .fieldX, biasUnit := 5000000, threshold := 3000000 }

/-- A station whose channel 0 is set up as given and whose stage tables are plain means. -/
def measuring (c : ChannelSetup) (f : FrontEnd) : State :=
  { station .member with
      setup := { plainSetup with
        channels := setAt plainSetup.channels 0 c
        stage := some { mean := true, table1 := List.replicate 16 4096, table2 := List.replicate 32 2048 } }
      front := setAt (Vector.replicate 4 (FrontEnd.afterStart 0)) 0 f }

/-- The three rows of the bin table of the manual's glide example, as rows 0 to 2. -/
def glideSetup : ChannelSetup :=
  { ChannelSetup.off with
      kind := .fieldZ, source := .peer 3 3, hysteresis := 200, glideLength := some 4
      rows := [{ edge := 10000, offset := 1200, scale := 500 }, { edge := 14000, offset := 2000, scale := 800 },
               { edge := 18000, offset := 3600, scale := -400 }] }

/-- The channel at rest in the first of these rows. -/
def resting : CorrChannel :=
  { CorrChannel.afterStart glideSetup with snapped := true }

/-- The drift table of the manual's lookup example. -/
def exampleDrift : Vector DriftBin 16 :=
  setAt (setAt (setAt (Vector.replicate 16 { estimate := 0, weight := 0 }) 5 { estimate := 182000, weight := 40 })
    7 { estimate := 190000, weight := 3 }) 9 { estimate := 214000, weight := 200 }

/-- The outcome of a command as a state; no command of this block ends otherwise. -/
def after (c : Instr) (s : State) : State :=
  match exec c s with
  | .next t => t
  | .fault _ => s
  | .refused _ => s

/-! ### Operand checks (ill-formed commands are refused) -/

theorem test_wf_tick : Instr.wellFormed (.referenceEdge 10005101 0 false) = false := by decide
theorem test_wf_tick_mark : Instr.wellFormed (.markRise 10005101) = false := by decide
theorem test_wf_tick_pulse : Instr.wellFormed (.leaderPulse 10005101 0) = false := by decide
theorem test_wf_tick_frame : Instr.wellFormed (.frameFirstRise 10005101 true) = false := by decide
theorem test_wf_tick_window : Instr.wellFormed (.summaryWindowRise 10005101 true) = false := by decide
theorem test_wf_frame_none : Instr.wellFormed (.frameReceived []) = false ∧ Instr.wellFormed (.framingFault []) = false := by decide
theorem test_wf_frame_long (cells : List Bool) (h : cells.length = 520) :
    Instr.wellFormed (.frameReceived cells) = false ∧ Instr.wellFormed (.framingFault cells) = false := by
  simp [Instr.wellFormed, frameLevels, h]
theorem test_wf_frame_good (cells : List Bool) (h : cells.length = 519) : Instr.wellFormed (.frameReceived cells) = true := by
  simp [Instr.wellFormed, frameLevels, h]
theorem test_wf_cell : Instr.wellFormed (.collided 520) = false := by decide
theorem test_wf_known_code : Instr.wellFormed (.unknownCommand 0x15#8) = false := by decide
theorem test_wf_unknown_code : Instr.wellFormed (.unknownCommand 0x16#8) = true := by decide
theorem test_wf_arguments : Instr.wellFormed (.seek (List.replicate 33 true)) = false ∧
    Instr.wellFormed (.release (List.replicate 33 true)) = false ∧ Instr.wellFormed (.setLabel (List.replicate 33 true)) = false ∧
    Instr.wellFormed (.clearNotices (List.replicate 17 true)) = false ∧ Instr.wellFormed (.readRow (List.replicate 9 true)) = false := by
  decide
theorem test_wf_record (bits : List Bool) (h : bits.length = 8033) : Instr.wellFormed (.programSetup true bits) = false := by
  simp [Instr.wellFormed, argumentBits, h]
theorem test_wf_chain : Instr.wellFormed (.chainWordReceived 10005101 true []) = false ∧
    Instr.wellFormed (.chainWordReceived (-10417) true []) = false ∧
    Instr.wellFormed (.chainWordReceived 9500000 true (List.replicate 10 true)) = false ∧
    Instr.wellFormed (.chainWordReceived (-10416) true (List.replicate 9 true)) = true := by decide
theorem test_wf_entry_image : Instr.wellFormed (.entryImage 64) = false ∧ Instr.wellFormed (.entryImage 63) = true := by decide

/-! ### The manual's worked examples -/

/-- The carry (1.1.1): the length and the carry after a boundary. -/
def lengthAndCarry (f phaseTerm carry : Int) : Int × Int :=
  let t := ({ Timebase.afterStart f 0 with phaseTerm := phaseTerm, carry := carry } : Timebase).fixLength
  (t.epochLength, t.carry)

theorem test_carry_first : lengthAndCarry 2365 45 0 = (10000068, 65) := by decide
theorem test_carry_second : lengthAndCarry 2365 0 65 = (10000024, 30) := by decide
theorem test_carry_third : lengthAndCarry 2365 0 30 = (10000023, 95) := by decide
theorem test_carry_fourth : lengthAndCarry 2365 0 95 = (10000024, 60) := by decide
theorem test_carry_negative : lengthAndCarry (-150) 0 0 = (9999999, -50) ∧ lengthAndCarry (-150) 0 (-50) = (9999998, 0) := by decide
theorem test_steer : (({ Timebase.afterStart 2365 0 with carry := 0 } : Timebase).steer 180).phaseTerm = 45 ∧
    (({ Timebase.afterStart 2365 0 with carry := 0 } : Timebase).steer 180).f = 3490 := by decide

/-- The holdover lookup (1.6.1). -/
theorem test_drift_lookup : driftBinOf 9300 = 7 ∧ driftLookup exampleDrift 9300 0 = 1966 := by decide
theorem test_drift_learn : DriftBin.learn { estimate := 190000, weight := 3 } 197300 = { estimate := 191825, weight := 4 } ∧
    DriftBin.learn { estimate := 200000, weight := 64 } 196000 = { estimate := 199938, weight := 65 } := by decide
theorem test_drift_edges : driftBinOf (-20001) = 0 ∧ driftBinOf (-20000) = 0 ∧ driftBinOf (-16000) = 1 ∧ driftBinOf 43999 = 15 ∧
    driftBinOf 44000 = 15 := by decide

/-- The three-station hut (2.8): close 501 elects station 2 and sets the disagreement flag. -/
theorem test_row501_elects : row501.elect = some 1 := by decide
theorem test_row501_disagrees : row501.disagrees (some 0) = true ∧ row501.leadersReport (some 2) = none := by decide

/-- The incumbent keeps the lead at equal rank and under JOINING, and yields to a better rank and to DOUBT. -/
def rowLed (rank2 rank3 : Nat) (bits : SummarySet) : Row :=
  { Row.opened 502 (some 2) none with
      summaryOr := bits
      cells := setAt (setAt (Vector.replicate 8 Cell.empty) 1 (cellOf (reportOf 2 rank2 false))) 2 (cellOf (reportOf 3 rank3 true)) }

theorem test_elect_equal : (rowLed 1 1 0).elect = some 2 := by decide
theorem test_elect_better : (rowLed 0 1 0).elect = some 1 := by decide
theorem test_elect_joining : (rowLed 0 1 8).elect = some 2 := by decide
theorem test_elect_doubt : (rowLed 0 1 12).elect = some 1 := by decide

/-- The summary window (3.6.1): cell 1 is ATTENDED, cell 3 DOUBT, cell 4 JOINING. -/
theorem test_summary_cells : summaryCells 13 = [true, true, false, true, true, false] := by decide

/-- The cell grid (R46): ten cells of a chain word end at 10,416 ticks; centres of a window's start and stop cells. -/
theorem test_cell_grid : cellStart 10 = 10416 ∧ cellCentre 0 = 520 ∧ cellCentre 5 = 5729 ∧ cellAt 1040 = 0 ∧ cellAt 1041 = 1 := by decide

/-- The chain word of station 5 (R65): start, number 0101 from its least significant bit, complement, stop. -/
theorem test_chain_cells : chainCells 5 = [true, true, false, true, false, false, true, false, true, false] := by decide

/-- The rebias example (6.3.1). -/
def substorm : FrontEnd := { FrontEnd.afterStart 2 with runSign := .positive, runCount := 15 }

theorem test_rebias : (FrontEnd.vectorConversion substorm vectorSetup 3079000).rebiased = true ∧
    (FrontEnd.vectorConversion substorm vectorSetup 3079000).record.value = 13079000 ∧
    (FrontEnd.vectorConversion substorm vectorSetup 3079000).front.bias = 3 ∧
    (FrontEnd.vectorConversion substorm vectorSetup 3079000).front.settle = 4 := by decide
theorem test_settle : (FrontEnd.vectorConversion (FrontEnd.vectorConversion substorm vectorSetup 3079000).front vectorSetup
    (-1916000)).record = { value := 13079000, marks := { fault := false, clipped := false, held := true } } := by decide

/-- R113's gain: each count is 2 m°C. -/
theorem test_temperature : computedTemperature { ChannelSetup.off with gain := 131072 } 7 = 14 := by decide

/-- The glide example (8.5.1): boundaries 7,201 to 7,204. -/
def glideAt (x : CorrChannel) (t : Int) (attended : Bool) : CorrChannel := (x.decideBin glideSetup (some t) attended).channel

theorem test_glide_stays : glideAt resting 14150 false = resting := by decide
theorem test_glide_starts : (glideAt resting 14260 false).offset = 1400 ∧ (glideAt resting 14260 false).scale = 575 ∧
    (glideAt resting 14260 false).bin = 1 := by decide
theorem test_glide_overtaken :
    (glideAt (glideAt (glideAt resting 14260 false) 14400 false) 18300 false).offset = 2100 ∧
    (glideAt (glideAt (glideAt resting 14260 false) 14400 false) 18300 false).scale = 388 := by decide

/-- R148's rounding: −1,000,000 with s = 388. -/
theorem test_corrected : correctedFigure glideSetup { resting with offset := 0, scale := 388 } (-1000000) = -1000003 := by decide

/-- FIELD_DRIFT (8.6.1) rises at the third evaluation out of tolerance. -/
def driftCheck : CheckSetup := { reference := .peer 3 1, expected := -400, tolerance := 50, count := 3 }

theorem test_field_drift_rises : (FieldCheck.close { FieldCheck.afterStart with outCount := 2 } driftCheck
    (some { value := -490, station := 4, channel := 1 })).drift = true := by decide
theorem test_field_drift_ends : (FieldCheck.close { FieldCheck.afterStart with inCount := 2, drift := true } driftCheck
    (some { value := -395, station := 4, channel := 1 })).drift = false := by decide

/-- The square root of R153. -/
theorem test_sqrt : nearestSqrt (20000000 * 20000000 + 50000000 * 50000000) = 53851648 := by decide

/-- The two reports of 5.4.1 are 46 and 25 bytes long. -/
def entry541 (i : Channel) (kind : ChannelKind) (quality : Quality) (value : Int) (bias : Int) : ChannelEntry :=
  { index := i, kind := kind, quality := quality, value := if quality.hasValue then some value else none
    vec := if kind.isVector then some { bias := bias, bin := 5, gliding := false } else none }

def report541 (x y z t : Quality) (d : Option DeltaF) : Report :=
  { reportOf 2 1 false with
      entries := [entry541 0 .fieldX x 10842310 2, entry541 1 .fieldY y 1204955 0, entry541 2 .fieldZ z 54388021 (-3),
                  entry541 3 .temp t 14250 0]
      deltaF := d }

theorem test_report_length : (encodeReport (report541 .good .good .held .good (some { value := -412, station := 4, channel := 1 }))).length = 46 ∧
    (encodeReport (report541 .warming .warming .warming .warming none)).length = 25 := by decide

/-! ### Reset -/

/-- The check word by hand (R205): 0xFF leaves the low byte of the preset, shifted up; a second 0xFF clears it; then bit 0 of a byte comes
out at its eighth shift. -/
theorem test_check_word : checkWord [] = 0xFFFF#16 ∧ checkWord [0xFF] = 0xFF00#16 ∧ checkWord [0xFF, 0xFF] = 0#16 ∧
    checkWord [0xFF, 0xFF, 0x01] = 0x8BB7#16 := by decide
theorem test_reset_sequence : State.reset.retention.nextSeq = 1 ∧ State.reset.retention.oldestKept = 1 ∧
    State.reset.retention.newest = 0 ∧ State.reset.port.cursor = 1 ∧ State.reset.tb.sourceAge = 4294967295 := by decide
theorem test_reset_starts : (after (.startComplete ⟨true, false, false, 9300⟩) State.reset).phase = .running ∧
    (after (.startComplete ⟨true, false, false, 9300⟩) State.reset).member.state = .halted ∧
    (after (.startComplete ⟨true, false, false, 9300⟩) State.reset).attn = true := by decide

/-! ### Commands on small states -/

theorem test_ownBoundary : (after (.ownBoundary 100) (inTime .locked)).tb.epochLength = 10000023 ∧
    (after (.ownBoundary 100) (inTime .locked)).table.rows.length = 2 := by decide
theorem test_referenceEdge_steers : (after (.referenceEdge 180 0 false) (inTime .locked)).tb.f = 3490 := by decide
theorem test_referenceEdge_steps : (after (.referenceEdge 5000 0 false) (inTime .free)).tb.timeState = .refAcquire ∧
    (after (.referenceEdge 5000 0 false) (inTime .free)).tb.tick = 0 := by decide
theorem test_referenceWindowEnd : (after .referenceWindowEnd (inTime .locked)).tb.missCount = 1 := by decide
theorem test_markRise : (after (.markRise 49710) (inTime .following)).mark.watch.riseSeen = true := by decide
theorem test_leaderPulse : (after (.leaderPulse 9700 0) (pulsed .following (-300))).tb.phaseTerm = -75 ∧
    (after (.leaderPulse 9700 0) (pulsed .following (-300))).tb.f = 490 := by decide
theorem test_fallbackPulse : (after (.fallbackPulse 0 false) (pulsed .following 49710)).tb.lastMarkPhase = some (-290) ∧
    (after (.fallbackPulse 0 false) (pulsed .following 49710)).mark.fallback = true := by decide
theorem test_markPairRelease : (after .markPairRelease (pulsed .free 0)).mark.pulse = none := by decide
theorem test_markAbsent : (after .markAbsent (inTime .following)).tb.missCount = 1 := by decide
theorem test_fallbackMark : (after .fallbackMark (station .member)).mark.drive = .fallback ∧
    (after .fallbackMark (station .joining)).mark.drive = .released := by decide
theorem test_ownSlotStart : (after .ownSlotStart (station .member)).line.tx.isSome = true ∧
    (after .ownSlotStart (station .joining)).line.tx = none := by decide
theorem test_slotStart : (after (.slotStart 0) (station .member)).line.rx.map Reception.state = some .hunting ∧
    (after (.slotStart 2) (station .member)).line.rx.map Reception.state = some .done := by decide
/-- The own slot 1 ends at 110 ms (R47), though slot 8 of the epoch before was the last one received. -/
theorem test_slotEnd_own :
    let s := { station .member with
      member := Member.afterStart false (some 0) .member
      line := { DataLine.afterStart with rx := some { slot := 7, state := .done, rise := 0, bytes := [], cells := [], expected := none } } }
    (after .slotEnd (after .ownSlotStart s)).tb.tick = 1100000 ∧ (after .slotEnd (after (.slotStart 0) s)).tb.tick = 1100000 := by decide
theorem test_rowClose_joining : (after .rowClose (station .joining)).member.silentCloses = 1 := by decide
theorem test_rowClose_archive : (after .rowClose (station .member)).archive.queue.map Entry.seq = [1] ∧
    (after .rowClose (station .member)).retention.nextSeq = 2 := by decide
theorem test_summaryWindow : (after (.summaryWindow false) (station .joining)).line.summaryDriven = 8#4 ∧
    (after (.summaryWindow false) (station .conflict)).line.summaryDriving = false := by decide
/-- The own drive reaches the own reading (R61): JOINING is read back, and not when another station's drive fixed the grid too early for
its cells. -/
theorem test_summary_own : (after (.summaryOrRead 0 false) (after (.summaryWindow false) (station .joining))).line.summaryOr = 8#4 ∧
    (after (.summaryOrRead 1 true) (after (.summaryWindowRise 8299000 true) (station .conflict))).line.summaryOr = 5#4 := by decide
theorem test_collided_third : (after (.collided 3) { station .member with
    line := { DataLine.afterStart with tx := some { report := reportOf 3 1 false, slot := 2 }, collisions := 2 } }).member.state =
      .conflict := by decide
theorem test_conversion : ((after (.conversion 0 39 3079000#24) (measuring vectorSetup substorm)).retention.biasSlots[0] = some 3) ∧
    (after (.conversion 0 39 3079000#24) (measuring vectorSetup substorm)).raised = 8#16 := by decide
theorem test_seek : (after (.seek (bitsOf [5, 0, 0, 0])) (awaiting (station .member))).port.lastResult = .badArgument ∧
    (after (.seek (bitsOf [5, 0, 0, 0])) (awaiting (station .member))).port.cursor = 1 := by decide
/-- Argument bits in two parts (R177): the transaction stands in ARGUMENTS with one byte sampled, then the command is executed. -/
theorem test_arguments : (after (.seek (bitsOf [1])) (awaiting (station .member))).port.trans = .arguments ∧
    (after (.seek (bitsOf [1])) (awaiting (station .member))).port.argBytes = 1 ∧
    (after (.release (bitsOf [0, 0, 0])) (after (.seek (bitsOf [1])) (awaiting (station .member)))).port.argBytes = 1 ∧
    (after (.seek (bitsOf [0, 0, 0])) (after (.seek (bitsOf [1])) (awaiting (station .member)))).port.lastResult = .done ∧
    (after (.transactionEnd 17) (after (.seek (bitsOf [1])) (awaiting (station .member)))).port.lastResult = .cutShort := by decide
theorem test_command_codes : PortCommand.ofByte 0x09 = some .readSetup ∧ PortCommand.ofByte 0x0A = none ∧
    namesCommand 0x0A = false ∧ namesCommand 0x10 = true := by decide
theorem test_readRow : (after (.readRow (bitsOf [4])) (awaiting (station .member))).port.image = none := by decide
/-- Data out (R176, R178): two lead bytes of 0x00, then the status image, whose first byte is the number 3, bit 7 first, and 0x00 after
it. -/
def answering : State := after .readStatus (awaiting { station .member with pins := { Pins.quiet with selectLow := true } })
set_option maxRecDepth 20000 in
theorem test_dataOut : answering.dataOut 15 = some false ∧ answering.dataOut 21 = some false ∧ answering.dataOut 22 = some true ∧
    answering.dataOut 23 = some true ∧ answering.dataOut (8 * 56) = some false ∧
    (after (.transactionEnd 8) answering).dataOut 22 = none := by decide
theorem test_setLabel : (after (.setLabel (bitsOf [9, 0, 0, 0])) (awaiting (inTime .locked))).tb.pendingLabel = some 9 ∧
    (after (.setLabel (bitsOf [9, 0, 0, 0])) (awaiting (inTime .free))).port.lastResult = .refused := by decide
/-- The start that STATION RESTART ordered waits for the transaction that carried it, and not for a later one (R186, R192). -/
def restarting : State := after .stationRestart (awaiting (station .member))
theorem test_restart_waits : (after .restartStart restarting).phase = .running ∧
    (after .restartStart (after .readStatus (after .transactionBegin (after (.transactionEnd 8) restarting)))).phase = .starting := by decide
theorem test_powerLoss : (after .powerLoss (station .member)).phase = .off ∧ (after .powerOn (after .powerLoss (station .member))).phase =
    .starting := by decide
theorem test_resetHolds : (after .resetAssert (station .member)).phase = .held ∧
    (after .resetRelease (after .resetAssert (station .member))).phase = .starting := by decide

/-! ### Witnesses: the hypotheses of each statement are met -/

/-- A record of one byte throughout, with some fields written over it. -/
def recordOf (fill : Byte) (fields : List (Nat × List Byte)) : List Byte :=
  fields.foldl (fun r x => r.take x.1 ++ x.2 ++ r.drop (x.1 + x.2.length)) (List.replicate 1004 fill)

/-- A clause that keeps a field, at the ends of its range, and one that replaces it, just outside. -/
theorem witness_SettingsAreValidatedAndKept : exec .summaryWindowEnd halted = .next halted ∧
    (leNat [48#8] ≤ 48 ∧ 48 < leNat [49#8] ∧ leNat [0xE8#8, 0x03] ≤ 1000 ∧ 1000 < leNat [0xE9#8, 0x03] ∧ leNat [0xD0#8, 0x07] ≤ 2000 ∧
      2000 < leNat [0xD1#8, 0x07] ∧ leNat [0x58#8, 0x02] ≤ 600 ∧ 600 < leNat [0x59#8, 0x02] ∧
      leNat [0x00#8, 0xE1, 0xF5, 0x05] ≤ 100000000 ∧ 100000000 < leNat [0x01#8, 0xE1, 0xF5, 0x05] ∧
      leNat [0xFE#8, 0xFF, 0x7F, 0x00] ≤ 8388606 ∧ 8388606 < leNat [0xFF#8, 0xFF, 0x7F, 0x00]) := ⟨rfl, by decide⟩

set_option maxRecDepth 40000 in
/-- The numbering mode byte of station 8 and of no station; a vector channel 0 whose GLIDE length, row count and start bin are at an end of
their ranges; a PEER source; and one LOCAL source that names no TEMP channel. -/
theorem witness_SettingsAreValidatedAndKept_record :
    (checkedNumbering (recordOf 0 [(0, [0x88])])).value = some 7 ∧ (checkedNumbering (recordOf 0 [(0, [0x89])])).replaced = true ∧
    (checkedMode (recordOf 0 [(29, [1, 2])]) 0 true).value = some 2 ∧ (checkedMode (recordOf 0 [(29, [1, 1])]) 0 true).replaced = true ∧
    (checkedRows (recordOf 0 [(34, [1])]) 0 true).replaced = false ∧ (checkedRows (recordOf 0 [(34, [17])]) 0 true).replaced = true ∧
    sourceOf 2 0x38 = some (.peer 7 3) ∧ sourceOf 2 0x39 = none ∧ sourceOf 1 0x20 = some (.localChannel 2) ∧ sourceOf 3 0 = none ∧
    sourceOk (Vector.replicate 4 .fieldX) .temp (some (.localChannel 2)) = false := by decide

set_option maxRecDepth 40000 in
/-- A bin table at the ends of its ranges, one past each, and one whose edges do not ascend; a record of zeros but for what the field check,
the limits and the tables need raises no share of SETUP_FAULT. -/
theorem witness_SettingsAreValidatedAndKept_tables :
    ({ edge := 80000, offset := -100000000, scale := 1000000 } : BinRow).inRange = true ∧
    ({ edge := 80001, offset := 0, scale := 0 } : BinRow).inRange = false ∧ ({ edge := 0, offset := 100000001, scale := 0 } : BinRow).inRange = false ∧
    ({ edge := 0, offset := 0, scale := -1000001 } : BinRow).inRange = false ∧
    (checkedRows (recordOf 0 [(34, [2]), (47, [1])]) 0 true).replaced = false ∧ (checkedRows (recordOf 0 [(34, [2])]) 0 true).replaced = true ∧
    (checkedCheck (recordOf 0 [(991, [1, 0x20]), (1001, [1])]) (Vector.replicate 4 .fieldF)).value.reference = .localChannel 2 ∧
    (checkedCheck (recordOf 0 [(991, [1, 0x20]), (1001, [1])]) (Vector.replicate 4 .temp)).replaced = true ∧
    (checkedCheck (recordOf 0 [(993, [0x41, 0x42, 0x0F]), (1001, [1])]) (Vector.replicate 4 .temp)).replaced = true ∧
    (checkedStages (recordOf 0 [(923, [0xFF, 0x7F, 0xFF, 0x7F, 2])]) true).replaced = false := by decide

set_option maxRecDepth 40000 in
theorem witness_SettingsAreValidatedAndKept_clean :
    let g := acceptedSetup (recordOf 0 [(2, [1]), (6, [5]), (227, [5]), (448, [5]), (669, [5]), (890, [1]),
      (923, [0xFF, 0x7F, 0xFF, 0x7F, 2]), (1001, [1])])
    g.recordFault = false ∧ g.tableFault = false := by decide

/-- A station in LOCKED, one in HOLDOVER, and a chained one whose second quiet boundary has passed. -/
theorem witness_OwnBoundaryBeginsEpoch : (inTime .locked).phase = .running ∧ (inTime .holdover).phase = .running ∧
    (let s : State := { inTime .locked with member := { (inTime .locked).member with quiet := 2 } }
     s.phase = .running ∧ s.member.quiet < 3 ∧ (after (.ownBoundary 0) s).member.quiet = 3 ∧
     (after (.ownBoundary 0) s).raised.getLsbD 14 = true) := by decide

/-- An ATTEND input asserted since the last boundary. -/
def attending : State :=
  { inTime .locked with setup := { plainSetup with inputs := #v[{ function := .attend, assertedLow := false }, { function := .off, assertedLow := false }] }
                        events := EventInputs.afterStart (Vector.replicate 2 false) |> fun e => { e with filtered := #v[true, false] } }

theorem witness_OwnBoundaryBeginsEpoch_attended : attending.attendedHolds = false ∧
    (after (.ownBoundary 0) attending).attendedHolds = true ∧ (after (.ownBoundary 0) attending).raised.getLsbD 9 = true := by decide

/-- The lookup by its four cases: a trusted bin, two trusted around, one side only, none. -/
def heldOver (drift : Vector DriftBin 16) : State :=
  { inTime .holdover with retention := { Retention.fresh with drift := drift } }

theorem witness_HoldoverBoundaryLooksUpDrift_trusted : (heldOver exampleDrift).phase = .running ∧
    (heldOver exampleDrift).tb.timeState = .holdover ∧ (-20000 + 4000 * ((5 : Fin 16).val : Int) ≤ 0) ∧
    ((0 : Int) < -20000 + 4000 * ((5 : Fin 16).val + 1 : Int)) ∧ 8 ≤ (heldOver exampleDrift).retention.drift[(5 : Fin 16)].weight := by
  decide

theorem witness_HoldoverBoundaryLooksUpDrift_between : (-20000 + 4000 * ((7 : Fin 16).val : Int) ≤ 9300) ∧
    ((9300 : Int) < -20000 + 4000 * ((7 : Fin 16).val + 1 : Int)) ∧ exampleDrift[(7 : Fin 16)].weight < 8 ∧
    8 ≤ exampleDrift[(5 : Fin 16)].weight ∧ 8 ≤ exampleDrift[(9 : Fin 16)].weight ∧
    (∀ j : Fin 16, 5 < j → j < 9 → exampleDrift[j].weight < 8) := by decide

theorem witness_HoldoverBoundaryLooksUpDrift_side : (∀ j : Fin 16, 9 < j → exampleDrift[j].weight < 8) ∧
    (9 : Fin 16) < 15 ∧ exampleDrift[(15 : Fin 16)].weight < 8 ∧ (∀ j : Fin 16, j < 5 → exampleDrift[j].weight < 8) ∧
    exampleDrift[(0 : Fin 16)].weight < 8 := by decide

theorem witness_HoldoverBoundaryLooksUpDrift_sound : ∀ j : Fin 16, exampleDrift[j].Sound := by
  have h : ∀ j : Fin 16, (-1000000 ≤ exampleDrift[j].estimate ∧ exampleDrift[j].estimate ≤ 1000000) ∧
      exampleDrift[j].weight ≤ 255 ∧ (exampleDrift[j].weight = 0 → exampleDrift[j].estimate = 0) := by decide
  exact fun j => ⟨(h j).1, (h j).2.1, (h j).2.2⟩

theorem witness_HoldoverBoundaryLooksUpDrift_none : ∀ j : Fin 16, Retention.fresh.drift[j].weight < 8 := by decide

/-- A window's edge after its boundary and before it, with and without a label pending. -/
theorem witness_LockedEdgeSteersAndLearns : (inTime .locked).phase = .running ∧ (inTime .locked).setup.referenceEnable = true ∧
    (inTime .locked).tb.timeState = .locked ∧ (inTime .locked).tb.pendingLabel = none ∧
    (180 : Int) = (if 180 < 5000000 then ((180 : Nat) : Int) else (180 : Nat) - (inTime .locked).tb.epochLength) ∧
    (-1000 : Int) ≤ 180 ∧ (180 : Int) ≤ 1000 ∧
    (if 180 < 5000000 then (inTime .locked).tb.windowEdge else (inTime .locked).tb.nextWindowEdge) = false ∧
    (inTime .locked).tb.settleCount < 60 := by decide

def labelled : State := { inTime .locked with tb := { (inTime .locked).tb with pendingLabel := some 99, settleCount := 60 } }

theorem witness_LabelAppliedAtWindowEdge_after : labelled.phase = .running ∧ labelled.setup.referenceEnable = true ∧
    labelled.tb.timeState = .locked ∧ labelled.tb.pendingLabel = some 99 ∧
    (0 : Int) ≤ 1000 ∧ (if 1000 < 5000000 then labelled.tb.windowEdge else labelled.tb.nextWindowEdge) = false ∧
    labelled.table.openRow.isSome = true ∧ labelled.tb.numberFrom ≠ .relabel := by decide

theorem witness_LabelAppliedAtWindowEdge_before : (9999000 : Int) - labelled.tb.epochLength = -1000 ∧
    labelled.tb.nextWindowEdge = false ∧ labelled.tb.held = none ∧ 60 ≤ labelled.tb.settleCount := by decide

/-- A window's edge of −100 ticks, the fourth in a row, and the three kinds of edge that are ignored. -/
def acquiring : State := { inTime .refAcquire with tb := { (inTime .refAcquire).tb with acquireCount := 3 } }

theorem witness_AcquiringEdgesLockAtFour : acquiring.phase = .running ∧ acquiring.setup.referenceEnable = true ∧
    acquiring.tb.timeState = .refAcquire ∧ (9999900 : Int) - acquiring.tb.epochLength = -100 ∧ acquiring.tb.nextWindowEdge = false ∧
    3 ≤ acquiring.tb.acquireCount ∧ (after (.referenceEdge 9999900 0 false) acquiring).tb.timeState = .locked := by decide

theorem witness_AcquiringEdgesLockAtFour_ignored : halted.setup.referenceEnable = false ∧ (inTime .locked).tb.timeState = .locked ∧
    (1000 : Int) < 1001 ∧ (after (.referenceEdge 1000 0 false) (inTime .locked)).tb.windowEdge = true := by decide

theorem witness_AcquiringEdgesLockAtFour_outside : (1000 : Int) < 1001 ∧ acquiring.setup.referenceEnable = true ∧
    (after (.referenceEdge 1001 0 false) acquiring).tb.acquireCount = 0 ∧
    (after (.referenceEdge 1001 0 false) acquiring).tb.tick = 0 := by decide

theorem witness_ReferenceEdgeStepsToRefAcquire : (inTime .following).phase = .running ∧ (inTime .following).tb.timeState ≠ .refAcquire ∧
    (inTime .following).tb.timeState ≠ .locked ∧ (inTime .following).setup.referenceEnable = true ∧
    ((1001 : Int) < -1000 ∨ (1000 : Int) < 1001) ∧
    (if 1000 < 5000000 then (inTime .following).tb.windowEdge else true) = false := by decide

/-- A reference edge 1 ms after a rise whose pulse has ended: the new watch has seen the rise, and no fallback is driven (R28, R33); and one
3 ms after it. -/
def risen (rise : Int) : State := { inTime .following with mark := { MarkUnit.afterStart with lastRise := some rise } }

theorem witness_ReferenceEdgeStepsToRefAcquire_risen : (risen 90000).member.state ≠ .halted ∧
    (after (.referenceEdge 100000 0 false) (risen 90000)).mark.watch.riseSeen = true ∧
    (after .fallbackMark (after (.referenceEdge 100000 0 false) (risen 90000))).mark.drive = .released ∧
    (after (.referenceEdge 100000 0 false) (risen 70000)).mark.watch.riseSeen = false ∧
    (after .fallbackMark (after (.referenceEdge 100000 0 false) (risen 70000))).mark.drive = .fallback := by decide

theorem witness_ReferenceEdgeStepsToRefAcquire_warming :
    let s : State := { measuring vectorSetup substorm with tb := Timebase.afterStart 0 0 }
    s.setup.channels[(0 : Channel)].kind ≠ .off ∧ s.warmingHolds = false ∧
    (after (.referenceEdge 100000 0 false) s).raised = 0x41#16 := by decide

theorem witness_StepCutsRowAndFlushes : (station .member).table.openRow = some (Row.opened 7 (some 0) none) ∧
    BoundaryKind.markStep.isStep = true := by decide

def transmitting : State := { station .member with line := { DataLine.afterStart with tx := some { report := reportOf 3 1 false, slot := 2 } } }

/-- Station 3 in slot 1, in a receive state, with the cells of the start cell read. -/
def receiving (x : RxState) (bytes : List Byte) (cells : List Bool) : State :=
  { station .member with
      line := { DataLine.afterStart with rx := some { slot := 0, state := x, rise := 0, bytes := bytes, cells := cells, expected := none } } }

/-- The own frame in transmission beside a reception in slot 1, a station without a row, and a FREE station that a pulse has step. -/
theorem witness_StepCutsRowAndFlushes_sending : transmitting.line.tx.isSome = true ∧ transmitting.line.rx = none ∧
    transmitting.table.openRow.isSome = true ∧
    (receiving .receiving [] [true]).line.rx.map (fun y => (y.state, y.slot)) = some (.receiving, 0) ∧
    (receiving .receiving [] [true]).table.openRow.isSome = true ∧ halted.table.openRow = none := by decide

theorem witness_StepCutsRowAndFlushes_execs : (inTime .following).setup.referenceEnable = true ∧ (1000 : Int) < 1001 ∧
    (pulsed .free 7000).AtHut ∧ (pulsed .free 7000).mark.pulse = some { rise := 7000, classified := false } ∧
    (pulsed .free 7000).disciplined = true ∧ (pulsed .free 7000).tb.timeState = .free ∧ ((27000 : Nat) : Int) - 7000 ≤ 20000 ∧
    (pulsed .free 7000).PhaseOf 7000 7000 := ⟨by decide, by decide, ⟨rfl, by decide⟩, rfl, by decide, rfl, by decide, rfl⟩

theorem witness_ReferenceWindowEndCountsMisses : (inTime .locked).phase = .running ∧ (inTime .locked).tb.tick ≤ 1000 ∧ (inTime .locked).tb.windowEdge = false ∧
    (inTime .locked).tb.missCount < 2 ∧ (inTime .locked).disciplined = true := by decide

def losing (ts : TimeState) (phase : Option Int) (m : Membership) : State :=
  { inTime ts with tb := { (inTime ts).tb with missCount := 2, lastMarkPhase := phase }, member := { (inTime ts).member with state := m } }

theorem witness_ReferenceWindowEndCountsMisses_losses : 2 ≤ (losing .locked (some 20000) .member).tb.missCount ∧
    (losing .locked (some 20000) .member).disciplined = true ∧ (losing .refAcquire none .member).disciplined = true ∧
    (losing .locked (some 20001) .member).disciplined = true ∧ (losing .locked none .unnumbered).disciplined = false ∧
    (inTime .free).tb.timeState ≠ .refAcquire := by decide

theorem atHut_station (m : Membership) (h : m ≠ .halted) : (station m).AtHut := ⟨rfl, h⟩

theorem witness_MarkRiseBeginsPulse : (station .member).AtHut ∧ (station .member).pins.markAsserted = false :=
  ⟨atHut_station _ (by decide), rfl⟩

def unnumberedPulse (rise : Int) : State := { pulsed .free rise with member := Member.afterStart false none .unnumbered }

theorem witness_UndisciplinedPulseIsOnlyRecorded : (unnumberedPulse (-20000)).AtHut ∧
    (unnumberedPulse (-20000)).mark.pulse = some { rise := -20000, classified := false } ∧
    (unnumberedPulse (-20000)).disciplined = false ∧ (unnumberedPulse (-20000)).mark.watch.isOpen = true ∧
    (unnumberedPulse (-20000)).mark.watch.taken = false ∧ (unnumberedPulse (-20000)).table.openRow.isSome = true :=
  ⟨⟨rfl, by decide⟩, rfl, by decide, rfl, rfl, by decide⟩

theorem witness_UndisciplinedPulseIsOnlyRecorded_fallback : (unnumberedPulse 99999).AtHut ∧ (30000 : Int) ≤ 99999 ∧
    (unnumberedPulse 99999).mark.pulse = some { rise := 99999, classified := false } ∧
    (unnumberedPulse 99999).disciplined = false := ⟨⟨rfl, by decide⟩, by decide, rfl, by decide⟩

/-- A leader pulse 2 ms before the boundary to come, taken by that boundary's watch in LOCKED and in FOLLOWING. -/
theorem witness_UndisciplinedPulseIsOnlyRecorded_early : (pulsed .following 9980000).AtHut ∧ (pulsed .locked 9980000).AtHut ∧
    (pulsed .following 9980000).mark.pulse = some { rise := 9980000, classified := false } ∧
    Classifies (.leaderPulse 9990000 0) 9980000 .leader 9980000 9990000 ∧ (5000000 : Int) ≤ 9980000 ∧
    (pulsed .following 9980000).PhaseOf 9980000 (-20000) ∧ (pulsed .following 9980000).TakesMark 9980000 (-20000) ∧
    (pulsed .following 9980000).tb.timeState = .following ∧
    (after (.leaderPulse 9990000 0) (pulsed .following 9980000)).table.early = some (.leader, -20000) :=
  ⟨⟨rfl, by decide⟩, ⟨rfl, by decide⟩, rfl, Or.inl ⟨0, rfl, rfl, rfl, by decide⟩, by decide, rfl, ⟨by decide, by decide, by decide⟩, rfl,
    by decide⟩

/-- A leader pulse at +2 ms and a fallback pulse whose boundary is the same instant, both taken. -/
theorem witness_FollowerSteersToMarksOrMisses : (pulsed .following 20000).AtHut ∧
    (pulsed .following 20000).mark.pulse = some { rise := 20000, classified := false } ∧
    Classifies (.leaderPulse 40000 0) 20000 .leader 20000 40000 ∧ Classifies (.fallbackPulse 0 false) 70000 .fallback 20000 90000 ∧
    (pulsed .following 20000).disciplined = true ∧ (pulsed .following 20000).tb.timeState = .following ∧
    (pulsed .following 20000).PhaseOf 20000 20000 ∧ (pulsed .following 20000).TakesMark 20000 20000 ∧
    (after (.fallbackPulse 0 false) (pulsed .following 70000)).tb.phaseTerm = 5000 :=
  ⟨⟨rfl, by decide⟩, rfl, Or.inl ⟨0, rfl, rfl, rfl, by decide⟩, Or.inr ⟨0, false, rfl, rfl, by decide, by decide⟩, by decide, rfl, rfl,
    ⟨by decide, by decide, by decide⟩, by decide⟩

/-- A mark beyond 20,000 ticks, a stray pulse, and the third miss. -/
theorem witness_FollowerSteersToMarksOrMisses_miss : (pulsed .following 49999).TakesMark 49999 49999 ∧ (20000 : Int) < 49999 ∧
    ¬(pulsed .following 50000).TakesMark 50000 50000 ∧ (pulsed .following 50000).tb.missCount < 2 ∧
    (after (.leaderPulse 60000 0) (after (.markRise 50000) (after .markPairRelease (after (.leaderPulse 60000 0)
      (pulsed .following 50000))))).tb.missCount = 2 :=
  ⟨⟨by decide, by decide, by decide⟩, by decide, fun h => absurd h.2.1 (by decide), by decide, by decide⟩

/-- A mark near enough to learn from, behind a leader of rank 0, before and at settle count 60. -/
def learning (settle : Nat) : State :=
  { pulsed .following 99 with tb := { (pulsed .following 99).tb with leaderRank := some 0, settleCount := settle } }

theorem witness_FollowerSteersToMarksOrMisses_qualifies : (learning 60).AtHut ∧ (learning 60).tb.leaderRank = some 0 ∧
    (-100 : Int) < 99 ∧ (99 : Int) < 100 ∧ (learning 59).tb.settleCount < 60 ∧ 60 ≤ (learning 60).tb.settleCount ∧
    (after (.leaderPulse 10099 0) (learning 59)).tb.settleCount = 60 ∧
    (after (.leaderPulse 10099 0) (learning 60)).retention.drift[(7 : Fin 16)].weight = 1 :=
  ⟨⟨rfl, by decide⟩, rfl, by decide, by decide, by decide, by decide, by decide, by decide⟩

def following (rise : Int) : State :=
  { pulsed .followAcquire rise with tb := { (pulsed .followAcquire rise).tb with firstEdgeTaken := true, acquireCount := 3 } }

theorem witness_AcquiringMarksLeadToFollowing : (following 500).AtHut ∧
    (following 500).mark.pulse = some { rise := 500, classified := false } ∧ (following 500).disciplined = true ∧
    Classifies (.leaderPulse 10500 0) 500 .leader 500 10500 ∧ (following 500).PhaseOf 500 500 ∧ (following 500).TakesMark 500 500 ∧
    (following 500).tb.timeState = .followAcquire ∧ (following 500).tb.firstEdgeTaken = true ∧
    (after (.leaderPulse 10500 0) (following 500)).tb.timeState = .following :=
  ⟨⟨rfl, by decide⟩, rfl, by decide, Or.inl ⟨0, rfl, rfl, rfl, by decide⟩, rfl, ⟨by decide, by decide, by decide⟩, rfl, rfl, by decide⟩

/-- The first edge, and an edge beyond 20,000 ticks, are stepped to. -/
theorem witness_AcquiringMarksLeadToFollowing_steps : (pulsed .followAcquire 500).tb.firstEdgeTaken = false ∧
    (after (.leaderPulse 10500 0) (pulsed .followAcquire 500)).tb.tick = 10000 ∧ (20000 : Int) < 20001 ∧
    (after (.leaderPulse 30001 0) (following 20001)).tb.acquireCount = 0 ∧
    (after (.leaderPulse 30001 0) (following 20001)).tb.tick = 10000 := by decide

theorem witness_AcquiringMarksLeadToFollowing_holdover : (pulsed .holdover 19999).AtHut ∧ (pulsed .holdover 19999).disciplined = true ∧
    (pulsed .holdover 19999).tb.timeState = .holdover ∧
    (after (.leaderPulse 29999 0) (pulsed .holdover 19999)).tb.timeState = .following ∧
    (after (.leaderPulse 30000 0) (pulsed .holdover 20000)).tb.timeState = .followAcquire :=
  ⟨⟨rfl, by decide⟩, by decide, rfl, by decide, by decide⟩

theorem witness_FreeStationStepsToMark : (pulsed .free 7000).AtHut ∧
    (pulsed .free 7000).mark.pulse = some { rise := 7000, classified := false } ∧ (pulsed .free 7000).disciplined = true ∧
    (pulsed .free 7000).tb.timeState = .free ∧ Classifies (.fallbackPulse 0 false) 7000 .fallback (-43000) 27000 ∧
    (pulsed .free 7000).PhaseOf (-43000) (-43000) ∧ (after (.fallbackPulse 0 false) (pulsed .free 7000)).tb.tick = 70000 :=
  ⟨⟨rfl, by decide⟩, rfl, by decide, rfl, Or.inr ⟨0, false, rfl, rfl, by decide, by decide⟩, rfl, by decide⟩

theorem witness_MarkAbsentCountsMiss : (inTime .following).AtHut ∧ (inTime .following).mark.watch.isOpen = true ∧
    (inTime .following).mark.watch.taken = false ∧ (inTime .following).disciplined = true ∧ (inTime .following).tb.missCount < 2 ∧
    (losing .followAcquire none .member).disciplined = true ∧ 2 ≤ (losing .followAcquire none .member).tb.missCount :=
  ⟨⟨rfl, by decide⟩, rfl, rfl, by decide, by decide, by decide, by decide⟩

theorem witness_OwnMarksAreDrivenAndEnd : (station .member).AtHut ∧ (station .member).tb.tick ≤ 50000 ∧
    (station .member).member.state = .member ∧ (station .member).leading = false ∧ (station .member).mark.watch.riseSeen = false ∧
    (station .member).pins.markAsserted = false := ⟨⟨rfl, by decide⟩, by decide, rfl, by decide, rfl, rfl⟩

def driving (d : MarkDrive) : State := { station .member with mark := { MarkUnit.afterStart with drive := d } }

theorem witness_OwnMarksAreDrivenAndEnd_ends : (driving .fallback).AtHut ∧ (driving .fallback).mark.drive = .fallback ∧
    (driving .leader).AtHut ∧ (driving .leader).mark.drive = .leader := ⟨⟨rfl, by decide⟩, rfl, ⟨rfl, by decide⟩, rfl⟩

def elected (asserted : Bool) : State :=
  { station .member with mark := { MarkUnit.afterStart with nextLeader := some 2 }, pins := { Pins.quiet with markAsserted := asserted } }

theorem witness_LeaderMarksOrStandsDown : (elected false).AtHut ∧ (elected false).member.number ≠ none ∧
    (elected false).mark.nextLeader = (elected false).member.number ∧ (elected true).pins.markAsserted = true ∧
    (station .joining).member.state ≠ .member := ⟨⟨rfl, by decide⟩, by decide, rfl, rfl, by decide⟩

/-- Station 3 in its leader mark, with a row that elects it when it is cut, and one without an open row that holds it as next leader. -/
def stepsAsLeader (open' : Bool) : State :=
  { station .member with
      mark := { MarkUnit.afterStart with drive := .leader, nextLeader := some 2 }
      table := { rows := if open' then [{ Row.opened 7 (some 0) none with
                                           cells := setAt (Vector.replicate 8 Cell.empty) 2 (cellOf (reportOf 3 0 false)) }] else []
                 early := none } }

theorem witness_LeaderMarksOrStandsDown_step :
    BoundaryKind.referenceStep.isStep = true ∧ (stepsAsLeader true).member.state ≠ .halted ∧ (stepsAsLeader false).table.openRow = none ∧
    [true, false].map (fun others => ((stepsAsLeader true).stepTo .referenceStep none .free 100 0 0 others).mark.led) = [false, true] ∧
    [true, false].map (fun others => ((stepsAsLeader false).stepTo .referenceStep none .free 100 0 0 others).mark.contention) = [true, false] ∧
    ((stepsAsLeader true).stepTo .referenceStep none .free 100 0 0 true).mark.drive = .released ∧
    ((station .member).stepTo .markStep (some (.fallback, 0)) .free 100 0 0 false).mark.led = false ∧
    ((station .member).stepTo .markStep (some (.fallback, 0)) .free 100 0 0 false).mark.fallback = true := by decide

theorem witness_ElectionFollowsItsTable_best : row501.bestCandidate = some 1 ∧ row501.summaryOr.getLsbD 2 = true := by decide
theorem witness_ElectionFollowsItsTable_incumbent : (rowLed 1 1 0).incumbent = some 2 ∧ (rowLed 0 1 8).summaryOr.getLsbD 3 = true ∧
    (rowLed 0 1 8).summaryOr.getLsbD 2 = false ∧ (Row.opened 7 none none).candidates = [] := by decide

theorem witness_RowCloseClosesRowAndElects : (station .member).AtHut ∧
    (station .member).table.openRow = some (Row.opened 7 (some 0) none) := ⟨⟨rfl, by decide⟩, by decide⟩
theorem witness_RowCloseClosesRowAndElects_halted : (station .halted).phase = .running ∧ (station .halted).member.state = .halted ∧
    (station .halted).table.openRow.isSome = true := by decide

/-- A row whose leader reports another epoch number. -/
def rowRelabels : Row :=
  { Row.opened 9 (some 1) none with cells := setAt (Vector.replicate 8 Cell.empty) 1 (cellOf (reportOf 2 0 true)) }

theorem witness_RowCloseMovesTimebase : (rowRelabels.leadersReport (some 2)).map Report.epoch = some 7 ∧ rowRelabels.epoch = 9 ∧
    ({ inTime .following with table := { rows := [rowRelabels], early := none } } : State).table.openRow = some rowRelabels ∧
    (inTime .following).tb.held = none := by decide

theorem witness_RowCloseMovesMembership : (station .joining).AtHut ∧ (station .joining).member.state = .joining ∧
    (station .joining).table.openRow.map Row.markKind = some .none ∧ (station .joining).member.silentCloses < 2 :=
  ⟨⟨rfl, by decide⟩, rfl, by decide, by decide⟩

/-- Counts one short of a move: a marked close, a silent one and a quiet one. -/
theorem witness_RowCloseMovesMembership_moves :
    ({ Member.afterStart false (some 2) .joining with markedCloses := 1 } : Member).countJoin .leader =
      Member.afterStart false (some 2) .member ∧
    ({ Member.afterStart false (some 2) .joining with silentCloses := 2 } : Member).countJoin .none =
      Member.afterStart false (some 2) .member ∧
    ({ Member.afterStart false (some 2) .conflict with conflictQuiet := 7 } : Member).countQuiet .empty =
      Member.afterStart false (some 2) .joining := by decide

theorem witness_RosterFollowsCells : (row501.reportOf 1).isSome = true ∧ row501.cells[(7 : Station)].state ≠ .received ∧
    ({ RosterEntry.unseen with presence := .missed, missed := 2 } : RosterEntry).close Cell.empty =
      { RosterEntry.unseen with presence := .gone, missed := 3 } := by decide

def sentRow : Row :=
  { Row.opened 7 (some 0) none with cells := setAt (Vector.replicate 8 Cell.empty) 2 { cellOf (reportOf 3 1 false) with own := true } }

theorem witness_RowCloseFormsArchiveEntry : (station .member).retention.nextSeq < 0xFFFFFFFF ∧
    (station .member).archive.queue.length < 4 ∧ sentRow.cells[(2 : Station)].own = true ∧
    sentRow.cells[(2 : Station)].state ≠ .empty := by decide

def spent : State := { station .member with retention := { Retention.fresh with nextSeq := 0xFFFFFFFF } }

theorem witness_RowCloseFormsArchiveEntry_spent : spent.AtHut ∧ spent.member.state = .member ∧
    0xFFFFFFFF ≤ spent.retention.nextSeq := ⟨⟨rfl, by decide⟩, rfl, by decide⟩

theorem witness_OwnSlotStartSendsReport : (measuring vectorSetup substorm).AtHut ∧
    (measuring vectorSetup substorm).member.number = some 2 ∧ (measuring vectorSetup substorm).setup.channels[(0 : Channel)].kind ≠ .off ∧
    (station .joining).member.state ≠ .member := ⟨⟨rfl, by decide⟩, rfl, by decide, by decide⟩

/-- Station 3 in its own frame, at a tick. -/
def sendingAt (tick : Nat) : State := { transmitting with tb := { Timebase.afterStart 0 0 with tick := tick } }

set_option maxRecDepth 20000 in
theorem witness_OwnSlotStartSendsReport_cells : (encodeFrame (reportOf 3 1 false)).length = 19 ∧
    ([0, 1041, 2083, 3125, 4166, 5208, 6250, 7291, 8333, 9375, 10416].map fun n => (sendingAt (2205000 + n)).dataDrive) =
      [true, true, false, true, false, true, false, true, true, false, true] ∧
    ([2204999, 2205000 + 190 * 3125 / 3].map fun n => (sendingAt n).dataDrive) = [false, false] ∧
    (sendingAt (2205000 + 189 * 3125 / 3)).line.tx.map (sendingAt (2205000 + 189 * 3125 / 3)).txCell = some 189 := by decide

theorem witness_SlotReceptionMoves_own : (station .member).AtHut ∧ (station .member).member.state = .member ∧
    (station .member).member.number = some 2 ∧ (receiving .hunting [] []).line.rx.map Reception.state ≠ some .receiving ∧
    (receiving .done [] []).line.rx.map Reception.state ≠ some .receiving := ⟨⟨rfl, by decide⟩, rfl, rfl, by decide, by decide⟩

theorem witness_SlotReceptionMoves : (receiving .hunting [] []).AtHut ∧
    (receiving .hunting [] []).line.rx.map Reception.state = some .hunting ∧
    ¬((receiving .hunting [] []).member.state = .member ∧ (receiving .hunting [] []).member.number = some 0) ∧
    200000 + 1000000 * (0 : Station).val ≤ 249999 ∧ 249999 < 250000 + 1000000 * (0 : Station).val :=
  ⟨⟨rfl, by decide⟩, by decide, by decide, by decide, by decide⟩

/-- The hunt takes a rise from the slot start (the model's choice at that very tick: log 43) until before the 5 ms limit (R53). -/
theorem test_frameFirstRise_span : [199999, 200000, 249999, 250000].map (fun tick =>
    (after (.frameFirstRise tick true) (receiving .hunting [] [])).line.rx.map Reception.state) =
    [some .hunting, some .receiving, some .receiving, some .hunting] := by decide

/-- RECEIVING before a start cell, before data cells, and at the stop cells of the lead and the length byte; and the same cells as a
receiver reads them off the line. -/
theorem witness_SlotReceptionMoves_cells : (receiving .receiving [0xD5] []).AtHut ∧
    (receiving .receiving [] ((byteCells 0xD4).take 9)).line.rx.map (fun x => byteOfCells x.cells.tail) = some 0xD4 ∧
    (receiving .receiving [0xD5] ((byteCells 49).take 9)).line.rx.map (fun x => (x.cells.length, byteOfCells x.cells.tail)) = some (9, 49) ∧
    48 < (49#8).toNat ∧ 15 ≤ (15#8).toNat ∧ (48#8).toNat ≤ 48 ∧
    (receiving .receiving [] [true]).CountsSound :=
  ⟨⟨rfl, by decide⟩, by decide, by decide, by decide, by decide, by decide,
    ⟨by decide, by decide, by decide, by decide, by decide, by
      intro x h
      have e : x = { slot := 0, state := .receiving, rise := 0, bytes := [], cells := [true], expected := none } :=
        (Option.some.inj h).symm
      subst e
      decide⟩⟩

theorem test_framing : ((after (.framingFault ((frameCells [0xD4]).drop 1)) (receiving .receiving [] [true])).table.openRow.map
      fun r => (r.cells[(0 : Station)].state, r.cells[(0 : Station)].damage)) = some (.damaged, some .framing) ∧
    ((after (.framingFault ((frameCells [0xD5, 49]).drop 1)) (receiving .receiving [] [true])).table.openRow.map
      fun r => r.cells[(0 : Station)].damage) = some (some .length) ∧
    ((after (.framingFault (((frameCells [0xD5]).drop 1) ++ [false])) (receiving .receiving [] [true])).table.openRow.map
      fun r => r.cells[(0 : Station)].damage) = some (some .framing) ∧
    (after (.frameReceived ((frameCells [0xD5, 15]).drop 1)) (receiving .receiving [] [true])).line.rx.map Reception.expected =
      some (some 190) := by decide

set_option maxRecDepth 20000 in
/-- A frame judged by each of its checks in turn, and read in two parts. -/
theorem witness_WholeFrameIsJudged : judgeFrame 2 (encodeFrame (reportOf 3 1 false)) = some (.received (reportOf 3 1 false)) ∧
    judgeFrame 1 (encodeFrame (reportOf 3 1 false)) = some (.damaged .slot) := by decide

set_option maxRecDepth 20000 in
theorem witness_WholeFrameIsJudged_parts :
    let cells := frameCells (encodeFrame (reportOf 1 1 true))
    cells.length = 190 ∧
    ((after (.frameReceived (cells.drop 37)) (after (.frameReceived ((cells.take 37).drop 1)) (receiving .receiving [] [true]))).table.openRow.map
      fun r => r.cells[(0 : Station)].report) = some (some (reportOf 1 1 true)) := by decide

/-- A body of station 1 with one header byte changed, and entry bytes after the header. -/
def bodyWith (version state : Byte) (entries : List Byte) : List Byte :=
  [1, version, 7, 0, 0, 0, state, 0, 0, 0, 0, 0, 0x80, 0, 0] ++ entries

/-- A frame whose check word matches its body. -/
def framed (body : List Byte) : List Byte :=
  0xD5#8 :: byte body.length :: (body ++ leBytes 2 (checkWord (byte body.length :: body)).toNat)

/-- Bodies that FORMAT refuses: version, time state, rank, entry count, entry kind, entry quality, entry order, entry lengths, ΔF. -/
def refusedBodies : List (List Byte) :=
  [bodyWith 0x20 0x0C [], bodyWith 0x10 0x06 [], bodyWith 0x10 0x1C [], bodyWith 0x15 0x0C [0xCC, 0xCD, 0xCE, 0xCF, 0xCF],
    bodyWith 0x11 0x0C [0xD4], bodyWith 0x11 0x0C [0xEC, 1, 0, 0, 0], bodyWith 0x12 0x0C [0xCD, 0xCC], bodyWith 0x11 0x0C [0x0C, 1, 0, 0],
    bodyWith 0x10 0x0C [0], bodyWith 0x10 0x4C [1, 0, 0, 0]]

set_option maxRecDepth 20000 in
theorem witness_WholeFrameIsJudged_format :
    (refusedBodies.map fun body => judgeFrame 0 (framed body)) = List.replicate 10 (some (.damaged .format)) := by decide +kernel

set_option maxRecDepth 20000 in
theorem witness_WholeFrameIsJudged_passes : (decodeReport (bodyWith 0x10 0x0C [])).isSome = true ∧
    (decodeReport (bodyWith 0x12 0x4C [0x0C, 1, 0, 0, 0, 0xC1, 3, 0x12, 5, 0, 0, 0, 0x24])).isSome = true := by decide +kernel

theorem witness_OwnTransmissionEnds : transmitting.AtHut ∧ transmitting.line.tx.isSome = true ∧
    519 < 10 * 52 ∧ 0 < 10 * (encodeFrame (reportOf 3 1 false)).length ∧ transmitting.line.collisions < 2 ∧
    2 ≤ ({ transmitting.line with collisions := 2 } : DataLine).collisions :=
  ⟨⟨rfl, by decide⟩, by decide, by decide, by decide, by decide, by decide⟩

theorem witness_SummaryWindowIsDrivenAndRead : (station .joining).AtHut ∧ (station .joining).line.summaryStored = false ∧
    (station .joining).line.summaryRise = none ∧ 8280000 ≤ 8319999 ∧ 8319999 < 8320000 ∧ (station .conflict).member.state ≠ .joining ∧
    (station .joining).table.openRow.isSome = true := ⟨⟨rfl, by decide⟩, rfl, rfl, by decide, by decide, by decide, by decide⟩

def rising : State := { station .member with line := { DataLine.afterStart with summaryRise := some 8300000 } }

theorem witness_SummaryWindowIsDrivenAndRead_read : rising.AtHut ∧ rising.line.summaryRise = some 8300000 ∧
    rising.table.openRow.isSome = true := ⟨⟨rfl, by decide⟩, rfl, by decide⟩

/-- A JOINING station in its summary window with ALERT, at a tick. -/
def windowAt (tick : Nat) : State :=
  { station .joining with tb := { Timebase.afterStart 0 0 with tick := tick }
                          line := { DataLine.afterStart with summaryDriven := 0xA, summaryDriving := true, summaryDriveEnd := 8306250 } }

theorem witness_SummaryWindowIsDrivenAndRead_drive :
    ([8299999, 8300000, 8301041, 8302083, 8303125, 8304166, 8305208, 8306249].map fun n => (windowAt n).dataDrive) =
      [false, true, false, true, false, true, false, false] := by decide

theorem witness_ReportFrameRoundTrips : Report.Sound (reportOf 3 1 false) :=
  ⟨by decide, by decide, by decide, by decide, by intro e h; simp [reportOf] at h, by decide, by intro d h; simp [reportOf] at h⟩

theorem witness_ChainWordIsSent : (station .member).AtHut ∧ (station .member).member.number = some 2 ∧
    (after .chainWordSend (station .member)).member.chainTx = some { number := 2, start := 9500000 } ∧
    (unnumberedPulse 0).member.number = none := ⟨⟨rfl, by decide⟩, rfl, by decide, rfl⟩

/-- Station 3 in its chain word, at a tick: cell 1, cell 2 and cell 3 of the number 0011, its complement and the stop cell. -/
def chainSending (tick : Nat) : State :=
  { station .member with tb := { Timebase.afterStart 0 0 with tick := tick }
                         member := { Member.afterStart false (some 2) .member with chainTx := some { number := 2, start := 9500000 } } }

theorem witness_ChainWordIsSent_cells : (9500000 : Int) + (3 * 3125 / 3 : Nat) ≤ 9503125 ∧ ((9503125 : Nat) : Int) < 9500000 + (4 * 3125 / 3 : Nat) ∧
    [9500000, 9501041, 9502083, 9503125, 9504166, 9505208, 9506250, 9507291, 9508333, 9509375].map (fun n => (chainSending n).choutDrive) =
      [true, true, true, false, false, false, false, true, true, false] ∧ (chainSending 9499999).choutDrive = false := by decide

/-- A chained station that has heard another number twice. -/
def renumbering : State :=
  { station .member with member := { Member.afterStart false (some 2) .member with candidate := some 4, repeatCount := 2 } }

/-- The same in a word whose rise came at 830.5 ms less ten cells, with the summary window driven, and the cells read so far. -/
def chainReading (n : Nat) : State :=
  { renumbering with
      line := { DataLine.afterStart with summaryDriving := true, summaryDriveEnd := 8306250, summaryRise := some 8300000 }
      member := { renumbering.member with chainRx := .reading 8295105 ((chainCells 4).take n) } }

/-- A word in one command, and the last cells of one. -/
theorem witness_ChainWordNumbersStation : renumbering.AtHut ∧ renumbering.setup.fixedNumber = none ∧ renumbering.member.head = false ∧
    renumbering.member.chainRx = .hunting ∧ renumbering.member.chainAfter < 9500100 ∧ (chainReading 3).member.chainRx = .reading 8295105 [true, false, false] ∧
    (4 : Station).val = (4#4).toNat ∧ 1 ≤ (4 : Station).val ∧ (0xB#4) = ~~~4#4 ∧ renumbering.member.candidate = some 4 ∧
    2 ≤ renumbering.member.repeatCount ∧
    (after (.chainWordReceived 9500100 true ((chainCells 4).drop 1)) renumbering).member.number = some 4 ∧
    (after (.chainWordReceived 9500100 true ((chainCells 4).drop 1)) renumbering).tb.tick = 9509995 ∧
    (after (.chainWordReceived 0 false ((chainCells 4).drop 3)) (chainReading 3)).member.number = some 4 :=
  ⟨⟨rfl, by decide⟩, rfl, rfl, rfl, by decide, rfl, by decide, by decide, by decide, rfl, by decide, by decide, by decide, by decide⟩

/-- The station after a whole word that rose at tick 10: the word completed at tick 9905, and no rise before that is a candidate. -/
def heardWord : State := after (.chainWordReceived 10 true ((chainCells 4).drop 1)) (station .member)

theorem witness_ChainWordNumbersStation_barred : heardWord.AtHut ∧ heardWord.member.chainRx = .hunting ∧ heardWord.member.chainAfter = 9905 ∧
    (9400 : Int) ≤ heardWord.member.chainAfter ∧ (after (.chainWordReceived 9400 true ((chainCells 4).drop 1)) heardWord).member = heardWord.member ∧
    heardWord.member.chainAfter < 9906 ∧ (after (.chainWordReceived 9906 true [false]) heardWord).member.chainRx = .reading 9906 [true, false] ∧
    (after (.ownBoundary 0) heardWord).member.chainAfter = 9905 - heardWord.tb.epochLength := ⟨⟨rfl, by decide⟩, by decide⟩

/-- A rise of CHIN before the start is none that the station saw (R82): the start is at its first own boundary. -/
theorem test_rise_before_start : (after (.chainWordReceived (-200) true ((chainCells 4).drop 1)) (station .member)).member = (station .member).member := by decide

theorem witness_ChainWordNumbersStation_cells :
    (∀ j < 4, (chainCells 4)[1 + j]? = some ((4#4).getLsbD j) ∧ (chainCells 4)[5 + j]? = some ((0xB#4).getLsbD j)) ∧
    (chainCells 4)[9]? = some false ∧ (true :: [false, true]).length < 10 := by decide

theorem witness_ChainWordNumbersStation_faulty : (0#4).toNat = 0 ∧ 8 ≤ (8#4).toNat ∧ (1 : Station).val = (1#4).toNat ∧
    (7 : Station).val = (7#4).toNat ∧
    (after (.chainWordReceived 9500100 true (List.replicate 9 true)) renumbering).raised = 0x2000#16 := by decide

/-- Not a chained station. -/
theorem witness_ChainWordNumbersStation_fixed : ({ plainSetup with fixedNumber := some 2 } : Setup).fixedNumber ≠ none ∧
    (Member.afterStart true (some 0) .joining).head = true := by decide

/-- A MEMBER that adopts a number while it drives the summary window releases it at the centre of the word's stop cell (R62, R66, R76): the
drive ends there, and the rise already read and the cells driven until then stay in its own reading. -/
theorem test_adoption_in_window : (after (.chainWordReceived 0 false ((chainCells 4).drop 3)) (chainReading 3)).tb.tick = 8305000 ∧
    (after (.chainWordReceived 0 false ((chainCells 4).drop 3)) (chainReading 3)).line.summaryDriveEnd = 8305000 ∧
    (after (.chainWordReceived 0 false ((chainCells 4).drop 3)) (chainReading 3)).line.summaryRise = some 8300000 ∧
    (after (.chainWordReceived 0 false ((chainCells 4).drop 3)) (chainReading 3)).line.ownWindow 8300520 = true := by decide

/-- A MEMBER that adopts a number while it sends leaves its own cell ABORTED (R52, R76). -/
theorem test_adoption_while_sending :
    let s := { chainReading 3 with
      line := { DataLine.afterStart with tx := some { report := reportOf 3 1 false, slot := 2 } }
      table := (station .member).table.mapCell 2 fun _ => { cellOf (reportOf 3 1 false) with state := .empty, own := true } }
    let t := after (.chainWordReceived 0 false ((chainCells 4).drop 3)) s
    s.member.state = .member ∧ t.line.tx = none ∧ t.table.openRow.map (fun r => r.cells[(2 : Station)].state) = some .aborted := by decide

theorem witness_ConversionGivesChannelValue : (measuring vectorSetup substorm).phase = .running ∧ (measuring vectorSetup (FrontEnd.afterStart 2)).setup.stage.isSome = true ∧
    vectorSetup.kind.isVector = true ∧ (FrontEnd.afterStart 2).settle = 0 ∧ (FrontEnd.afterStart 2).runCount < 15 ∧
    (measuring { vectorSetup with kind := .temp } substorm).setup.channels[(0 : Channel)].kind = .temp ∧
    (measuring { vectorSetup with kind := .fieldF } substorm).setup.channels[(0 : Channel)].kind = .fieldF ∧
    (measuring vectorSetup substorm).setup.channels[(1 : Channel)].kind = .off := by decide

theorem witness_RunRebiasesAndSettles_run : (measuring vectorSetup substorm).phase = .running ∧ substorm.settle = 0 ∧
    substorm.runCount = 15 ∧ substorm.runSign = .positive ∧ (vectorSetup.threshold : Int) < (3079000#24).toInt ∧ substorm.bias < 15 ∧
    ¬(({ substorm with bias := 15 } : FrontEnd).bias < 15) := by decide

/-- The record of the conversion that completes a run is restored under the step it was made under (the manual's example of section 6.3). -/
theorem test_run_record : ((after (.conversion 0 39 3079000#24) (measuring vectorSetup substorm)).front[(0 : Channel)].last.map
      Conversion.value = some 13079000) ∧
    ((after (.conversion 0 39 3079000#24) (measuring vectorSetup substorm)).dec[(0 : Channel)].stage1.map Conversion.value = [13079000]) := by
  decide

theorem witness_RunRebiasesAndSettles_settle :
    0 < (measuring vectorSetup { substorm with settle := 4 }).front[(0 : Channel)].settle ∧
    (measuring vectorSetup { substorm with settle := 4 }).phase = .running := by decide

/-- No room on a channel beside one that is not in saturation: SATURATED rises. -/
theorem witness_RunRebiasesAndSettles_saturates :
    let s := measuring vectorSetup { substorm with bias := 15 }
    s.saturatedHolds = false ∧ (after (.conversion 0 39 3079000#24) s).raised = 0x10#16 ∧ s.biasOutput 0 = 75000000 ∧ s.biasOutput 1 = 0 ∧
    (after (.conversion 0 39 3079000#24) (measuring vectorSetup substorm)).biasOutput 0 = 15000000 := by decide

theorem witness_FilteredLevelSetsMarker : (station .member).AtHut := ⟨rfl, by decide⟩
theorem test_filteredLevel_other : (after (.filteredLevelChange 1 true) (station .member)).events.filtered = #v[false, true] ∧
    (after (.filteredLevelChange 1 true) (station .member)).pins = { (station .member).pins with eventHigh := #v[false, true] } := by decide

theorem witness_StageOneYieldsOutputs : DecChannel.afterStart.stage1.length ≤ 16 ∧ DecChannel.afterStart.stage1Count ≤ 7 ∧
    (List.replicate 16 (4096 : Int)).length = 16 ∧
    ({ DecChannel.afterStart with stage1 := List.replicate 16 { value := 1, marks := Markings.clean }, stage1Count := 7 } :
      DecChannel).stage1Count = 7 := by decide

def fullStage2 : DecChannel := { DecChannel.afterStart with stage2 := List.replicate 32 { value := 5, mark := .none } }

theorem witness_BoundaryProducesEpochValues :
    ({ measuring vectorSetup substorm with dec := setAt (Vector.replicate 4 DecChannel.afterStart) 0 fullStage2 } : State).dec[(0 : Channel)] =
      fullStage2 ∧ fullStage2.stage2.length = 32 ∧ (measuring vectorSetup substorm).restartPending = false ∧
    (measuring vectorSetup substorm).setup.stage.map (fun g => g.table2.length) = some 32 ∧
    (after .pipelineRestart (awaiting (measuring vectorSetup substorm))).restartPending = true := by decide

/-- A pipeline restart's flush on a station that is not warming. -/
theorem witness_BoundaryProducesEpochValues_warming : (measuring vectorSetup substorm).warmingHolds = false ∧
    (after (.ownBoundary 0) (after .pipelineRestart (awaiting (measuring vectorSetup substorm)))).raised = 0x40#16 := by decide

theorem witness_BinDecisionAndCorrection_setup : glideSetup.Sound ∧ glideSetup.kind.isField = true ∧ glideSetup.source ≠ .none :=
  ⟨⟨by decide, by decide, by intro g h; cases h; decide⟩, by decide, by decide⟩

theorem witness_BinDecisionAndCorrection_channel : resting.Sound glideSetup ∧ resting.snapped = true ∧
    (CorrChannel.afterStart glideSetup).Sound glideSetup ∧ (CorrChannel.afterStart glideSetup).snapped = false :=
  ⟨⟨by decide, by decide, by intro g h; cases h⟩, rfl, ⟨by decide, by decide, by intro g h; cases h⟩, rfl⟩

/-- A bin that changes in GLIDE mode and in STEP mode, one that stays, a running glide, a table whose edges ascend, and a source none. -/
theorem witness_BinDecisionAndCorrection_moves : (glideAt resting 14260 false).bin ≠ resting.bin ∧
    ((resting.decideBin { glideSetup with glideLength := none } (some 14260) false).channel.offset = 2000) ∧
    (glideAt resting 14199 false).bin = resting.bin ∧ (glideAt resting 14260 false).glide.isSome = true ∧
    edgesAscend glideSetup.rows = true ∧ glideSetup.rows ≠ [] ∧
    ({ glideSetup with source := .none } : ChannelSetup).kind.isField = true := by decide

/-- Channel 0 with a full window, a LOCAL source, and a temperature on channel 3. -/
def corrected (x : CorrChannel) (temp : Option Int) : State :=
  let s := measuring { glideSetup with source := .localChannel 3 } (FrontEnd.afterStart 0)
  { s with
      setup := { s.setup with channels := setAt s.setup.channels 3 { ChannelSetup.off with kind := .temp } }
      dec := setAt (setAt s.dec 0 fullStage2) 3 (match temp with
        | some v => { DecChannel.afterStart with stage2 := List.replicate 32 { value := v, mark := .none } }
        | none => DecChannel.afterStart)
      corr := setAt s.corr 0 x }

/-- A TEMP channel passes its epoch value on, and a boundary without one leaves a running glide where it stands. -/
theorem test_correction_passes :
    ((CorrChannel.afterStart ChannelSetup.off).boundary { ChannelSetup.off with kind := .temp } (some ⟨21500, .held, 7⟩) none false).corrected =
      some ⟨21500, .held, .none⟩ ∧
    (glideAt resting 14260 false).boundary glideSetup none (some 14260) false = { glideAt resting 14260 false with corrected := none } := by
  decide

/-- GLIDING rises where a glide starts, and STALE_TEMP where the temperature is stale. -/
theorem witness_BinDecisionAndCorrection_holding : (corrected resting none).glidingHolds = false ∧
    (after (.ownBoundary 0) (corrected resting (some 14260))).raised = 0x80#16 ∧
    (corrected resting none).staleTempHolds = false ∧ (after (.ownBoundary 0) (corrected resting none)).raised = 0x100#16 := by decide

theorem witness_GlideStaysBetweenStartAndTarget :
    let g : Glide := { startOffset := 1600, startScale := 650, targetOffset := 3600, targetScale := -400, counter := 4 }
    1 ≤ g.counter ∧ g.counter ≤ 4 ∧ g.offsetAt 4 = 3600 ∧ g.scaleAt 4 = -400 := by decide

theorem witness_FieldCheckEvaluatesPairs : driftCheck.tolerance < |(-451 : Int) - driftCheck.expected| ∧
    |(-450 : Int) - driftCheck.expected| ≤ driftCheck.tolerance ∧ 1 ≤ driftCheck.count ∧
    (FieldCheck.close { FieldCheck.afterStart with drift := true } driftCheck (some { value := -451, station := 4, channel := 1 })).drift = true ∧
    (FieldCheck.close FieldCheck.afterStart driftCheck (some { value := -450, station := 4, channel := 1 })).drift = false := by decide

/-- A row that gives a pair: the own report and station 4's scalar. -/
def pairRow : Row :=
  { Row.opened 7 none none with
      cells := setAt (setAt (Vector.replicate 8 Cell.empty) 1
        { cellOf (report541 .good .good .good .good none) with own := true }) 3
        (cellOf { reportOf 4 1 false with entries := [entry541 1 .fieldF .good 55000000 0] }) }

theorem witness_FieldCheckEvaluatesPairs_pair : (pairRow.evaluate (some 1) (.peer 3 1)).isSome = true := by decide

def waitingEntry : Entry := formEntry 1 (Row.opened 7 none none) (some 2) false

def queued (writing : Option Nat) : State := { station .member with archive := { queue := [waitingEntry], writing := writing } }

theorem witness_ArchiveWritesStartAndComplete : (queued none).archive.queue = [waitingEntry] ∧ (queued none).archive.writing = none ∧
    (queued none).retention.slots.length < 8192 ∧ (queued (some 0)).archive.writing = some 0 := by decide

theorem witness_ArchiveWritesStartAndComplete_full (x : Slot) :
    8192 ≤ (List.replicate 8192 x).length ∧ ∃ others, List.replicate 8192 x = x :: x :: others :=
  ⟨by rw [List.length_replicate], List.replicate 8190 x, rfl⟩

theorem witness_SeekAndReleaseActByCases : (awaiting (station .member)).Takes .seek (bitsOf [2, 0, 0, 0]) (bitsOf [2, 0, 0, 0]) ∧
    (awaiting (station .member)).port.hold = .none ∧ 32 ≤ (bitsOf [2, 0, 0, 0]).length ∧
    leNat (bytesOfPortBits (bitsOf [2, 0, 0, 0])) = 2 ∧ 0 < (awaiting (station .member)).retention.oldestKept ∧
    1 ≤ (awaiting (station .member)).retention.newest + 1 ∧ (awaiting (station .member)).retention.newest + 1 < 2 ∧
    (after (.seek (bitsOf [2])) (awaiting (station .member))).Takes .seek (bitsOf [0, 0, 0]) (bitsOf [2, 0, 0, 0]) :=
  ⟨⟨rfl, Or.inl ⟨rfl, rfl⟩⟩, rfl, by decide, by decide, by decide, by decide, by decide, ⟨rfl, Or.inr ⟨by decide, by decide, by decide⟩⟩⟩

/-- An archive with one entry, streamed. -/
def stored : State := after .archiveWriteComplete (queued (some 0))

def streaming : State := after .readEntries (awaiting stored)

theorem witness_EntryImagesFollowCursor : streaming.phase = .running ∧ streaming.port.command = some .readEntries ∧
    streaming.port.image.isSome = true ∧ streaming.retention.slots.map Slot.seq = [1] ∧ streaming.port.cursor ≤ 1 ∧
    (streaming.retention.slots.all fun x => x.words.all fun w => decide (w.errors ≤ 2)) = true := by decide

set_option maxRecDepth 20000 in
/-- An image cut in the middle leaves the cursor, and its last byte moves it past the entry and forms the next image, which shows none. -/
theorem witness_EntryImagesFollowCursor_parts : streaming.port.leads = 2 ∧ (after (.entryImage 1) streaming).port.leads = 1 ∧
    (after (.entryImage 62) streaming).port.cursor = 1 ∧ (after (.entryImage 62) streaming).port.sending = some 1 ∧
    (after (.entryImage 62) streaming).port.imageIndex = 60 ∧ (after (.entryImage 62) streaming).port.leads = 0 ∧
    (after (.entryImage 1) (after (.entryImage 62) streaming)).port.cursor = 2 ∧ 63 = streaming.port.leads + 61 ∧
    (after (.entryImage 63) streaming).port.cursor = 2 ∧ (after (.entryImage 63) streaming).port.sending = none := by decide

set_option maxRecDepth 20000 in
theorem witness_EntryImagesFollowCursor_past : (∀ y ∈ (after (.entryImage 63) streaming).retention.slots,
    y.seq < (after (.entryImage 63) streaming).port.cursor) ∧ (after (.entryImage 63) streaming).archive.writing = none ∧
    (after (.entryImage 63) streaming).port.imageIndex = 0 ∧
    (after (.entryImage 63) streaming).port.image = some (uField 4 2 ++ 0#8 :: List.replicate 56 0) := by decide

/-- The same stream with select low: data out sends the lead bytes, the entry image from its first byte on, and then the next image. Its
first byte, the sequence number 1, has its bit 0 set; the next image's is 2. -/
def streamingOut : State := { streaming with pins := { Pins.quiet with selectLow := true } }

set_option maxRecDepth 20000 in
theorem witness_EntryImagesFollowCursor_dataOut : streamingOut.pins.selectLow = true ∧ streamingOut.port.trans = .response ∧
    streamingOut.dataOut 15 = some false ∧ streamingOut.dataOut 23 = some true ∧ streamingOut.dataOut (16 + 488 + 6) = some true ∧
    (after (.entryImage 2) streamingOut).dataOut 7 = some true ∧ (after (.entryImage 63) streamingOut).dataOut 6 = some true := by decide

/-- A stream that has reached an entry in write: the two lead bytes are out, and the image, formed then, reads IN_WRITE. -/
def streamingInWrite : State := after (.entryImage 2) (after .readEntries { awaiting (queued (some 0)) with pins := { Pins.quiet with selectLow := true } })

set_option maxRecDepth 20000 in
/-- The write's completion does not change the image in hand, though none of its bytes has gone out, nor what data out drives of it (R172);
the next image shows the entry. Read status is byte 4: IN_WRITE, 4. -/
theorem witness_EntryImagesFollowCursor_latched : streamingInWrite.port.leads = 0 ∧ streamingInWrite.port.imageIndex = 0 ∧
    streamingInWrite.port.image = some (uField 4 1 ++ 4#8 :: List.replicate 56 0) ∧ streamingInWrite.port.sending = none ∧
    (after .archiveWriteComplete streamingInWrite).retention.newest = 1 ∧
    (after .archiveWriteComplete streamingInWrite).port.image = streamingInWrite.port.image ∧
    (after .archiveWriteComplete streamingInWrite).port.sending = none ∧
    (after .archiveWriteComplete streamingInWrite).dataOut 37 = some true ∧ streamingInWrite.dataOut 37 = some true ∧
    (after (.entryImage 61) (after .archiveWriteComplete streamingInWrite)).port.sending = some 1 := by decide

/-- A slot whose second word has two bits in error: bit 7 of offset 10, which the layout does not assign, and a bit of offset 15, which lies
after an empty report body. Both are imaged as 0 (R204), and the image reads DAMAGED. -/
def damagedSlot : Slot :=
  { index := 0, seq := 1
    words := waitingEntry.words.mapIdx fun i w => if i = 1 then { w with held := w.written ^^^ 0x0100000000800000#64 } else w }

set_option maxRecDepth 20000 in
theorem test_padding_of_damaged_image :
    let s := { stored with retention := { stored.retention with slots := [damagedSlot] } }
    (damagedSlot.byteRead 10 = 0x80#8 ∧ damagedSlot.byteRead 12 = 0#8 ∧ damagedSlot.byteRead 15 = 1#8) ∧
    s.nextEntryImage.bytes.getD 4 0 = 3#8 ∧ s.nextEntryImage.bytes.getD 10 0 = 0#8 ∧ s.nextEntryImage.bytes.getD 15 0 = 0#8 := by decide

theorem witness_TransactionsBeginAndEnd : (station .member).phase = .running ∧ (station .member).pins.selectLow = false ∧
    namesCommand 0x77 = false ∧ (awaiting (station .member)).port.trans = .command ∧
    (awaiting (station .member)).Takes .readRow (bitsOf []) [] ∧ (bitsOf []).length < 8 * 1 :=
  ⟨rfl, rfl, by decide, rfl, ⟨rfl, Or.inl ⟨rfl, rfl⟩⟩, by decide⟩

theorem witness_HoldAnswersBusy :
    let s := { awaiting (station .member) with port := { (awaiting (station .member)).port with hold := .restartWait } }
    s.phase = .running ∧ s.port.trans = .command ∧ s.port.hold ≠ .none ∧ 8032 ≤ (List.replicate 8032 true).length ∧
    32 ≤ (bitsOf [0, 0, 0, 0]).length ∧ 16 ≤ (bitsOf [0, 0]).length ∧ 8 ≤ (bitsOf [0]).length :=
  ⟨rfl, rfl, by decide, List.length_replicate.ge, by decide, by decide, by decide⟩

theorem witness_ReadsReturnImages : (awaiting (station .member)).phase = .running ∧
    (awaiting (station .member)).port.trans = .command ∧ (awaiting (station .member)).port.hold = .none ∧
    3 < leNat (bytesOfPortBits (bitsOf [4])) ∧ leNat (bytesOfPortBits (bitsOf [3])) ≤ 3 ∧ 8 ≤ (bitsOf [4]).length ∧
    ((awaiting (station .member)).table.rows.filter fun r => !r.isOpen).length ≤ 3 ∧
    (after .rowClose (station .member)).table.closedRows[0]?.isSome = true := by decide

theorem witness_ReadsReturnImages_data : answering.phase = .running ∧ answering.pins.selectLow = true ∧
    answering.port.trans = .response ∧ answering.port.command ≠ some .readEntries ∧ answering.port.image.isSome = true ∧ answering.port.imageIndex = 0 ∧ answering.port.leads = 2 ∧
    (station .member).pins.selectLow = false := by decide

set_option maxRecDepth 40000 in
/-- A stored record whose bin table of channel 0 has one row: the other rows read zero, and the last byte of the first row, the first of the
second and the byte after the table show it (R206). -/
theorem witness_ReadsReturnImages_setup :
    (List.replicate 1004 1#8).length = 1004 ∧
    (let image := ({ station .member with store := { stored := List.replicate 1004 1#8, writing := none } } : State).setupImage
     [0, 34, 46, 47, 226, 227, 1003].map (fun j => image.getD j 0) = [1, 1, 1, 0, 0, 1, 1]) :=
  ⟨List.length_replicate, by decide⟩

theorem witness_StatusImageClearsResultWhenClocked :
    (after .readStatus (awaiting (station .member))).port.command = some .readStatus ∧
    (after .readStatus (awaiting (station .member))).port.image.isSome = true ∧
    (after .readStatus (awaiting (station .member))).port.clearsResult = true := by decide

theorem witness_LabelAndRestartsAreOrdered : (awaiting (inTime .locked)).Takes .setLabel (bitsOf [1, 0, 0, 0]) (bitsOf [1, 0, 0, 0]) ∧
    (awaiting (inTime .locked)).port.hold = .none ∧ (awaiting (inTime .locked)).tb.timeState = .locked ∧
    (1#32).toNat = leNat (bytesOfPortBits ((bitsOf [1, 0, 0, 0]).take 32)) ∧ 32 ≤ (bitsOf [1, 0, 0, 0]).length ∧
    (awaiting (inTime .locked)).port.trans = .command ∧ (awaiting (inTime .free)).tb.timeState ≠ .locked ∧
    restarting.phase = .running ∧ restarting.port.restartOpen = true :=
  ⟨⟨rfl, Or.inl ⟨rfl, rfl⟩⟩, rfl, rfl, by decide, by decide, rfl, by decide, by decide, by decide⟩

theorem witness_ClearDriftTableEmptiesBins : (awaiting labelled).phase = .running ∧ (awaiting labelled).port.trans = .command ∧
    (awaiting labelled).tb.settleCount = 60 ∧ driftBinOf (awaiting labelled).tb.oscTemp = 7 ∧
    (awaiting labelled).port.hold = .none := by decide

theorem witness_ClearNoticesClearsNamed :
    (awaiting (station .member)).Takes .clearNotices (bitsOf [0xFF, 0xFF]) (bitsOf [0xFF, 0xFF]) ∧
    (awaiting (station .member)).port.hold = .none ∧ 16 ≤ (bitsOf [0xFF, 0xFF]).length ∧
    (0xFFFF#16).toNat = leNat (bytesOfPortBits ((bitsOf [0xFF, 0xFF]).take 16)) := ⟨⟨rfl, Or.inl ⟨rfl, rfl⟩⟩, rfl, by decide, by decide⟩

theorem witness_ProgramSetupActsByCases (bits : List Bool) (h : bits.length = 8032) :
    (awaiting (station .member)).Takes .programSetup bits bits ∧ 8032 ≤ bits.length ∧
    (awaiting (station .member)).port.hold = .none := ⟨⟨rfl, Or.inl ⟨rfl, rfl⟩⟩, h.ge, rfl⟩

/-- Every record of 1,002 bytes has a check word that completes it, and one that does not. -/
theorem witness_ProgramSetupActsByCases_checked (body : List Byte) (h : body.length = 1002) :
    leNat ((body ++ leBytes 2 (checkWord body).toNat).drop 1002) =
      (checkWord ((body ++ leBytes 2 (checkWord body).toNat).take 1002)).toNat := by
  rw [← h, List.drop_left, List.take_left]
  have h1 := (checkWord body).isLt
  simp only [leBytes, leNat, List.foldr, BitVec.toNat_ofNat]
  omega

/-- A setup write in progress. -/
def programming : State := { station .member with store := { stored := [], writing := some [1] } }

theorem witness_ProgramSetupActsByCases_completes : programming.phase = .running ∧ programming.store.writing = some [1] := by decide

theorem witness_StartsBeginAndAreHeld :
    ({ station .member with phase := .held } : State).phase = .held ∧ (station .member).phase ≠ .off ∧
    restarting.port.hold = .restartWait ∧ (after (.transactionEnd 8) restarting).port.restartOpen = false ∧
    restarting.archive.queue = [] ∧ (after .powerLoss (station .member)).phase = .off := by decide

theorem witness_StartCompletesAtFirstBoundary : State.reset.phase = .starting := by decide

/-- A start of the head of the chain with a vector channel, and a low-asserted ATTEND input whose pin reads low. -/
def startingHead : State :=
  { State.reset with setup := { plainSetup with channels := setAt plainSetup.channels 0 vectorSetup
                                                inputs := #v[{ function := .attend, assertedLow := true }, { function := .off, assertedLow := false }] } }

theorem test_startComplete_values :
    let t := after (.startComplete ⟨true, false, true, 9300⟩) startingHead
    t.member.head = true ∧ t.member.number = some 0 ∧ t.member.state = .joining ∧ t.events.filtered = #v[true, true] ∧
    t.events.sampled = #v[true, false] ∧ t.port.notices = 0x240#16 ∧ t.raised = 0x240#16 ∧
    (t.dec[(0 : Channel)].warming, t.dec[(1 : Channel)].warming) = (true, false) := by decide

/-- A station with nothing waiting idles, so each invariant's hypotheses are met by it and the state that follows. -/
theorem witness_step (s : State) (h : s.pending = []) : step s = .next s := by simp [step, h]

theorem witness_StepKeepsTimeSound : (station .member).TimeSound ∧ (station .member).pending = [] := by
  refine ⟨⟨⟨by decide, by decide, by decide, by decide, by decide, by decide, by decide, by decide, by decide⟩, ?_, ?_⟩, rfl⟩
  · intro i
    have h : (station .member).retention.drift[i] = { estimate := 0, weight := 0 } := by simp [station, halted, State.reset, Retention.fresh]
    rw [h]
    exact ⟨by decide, by decide, by decide⟩
  · intro r hr k x hx
    have hr : r = Row.opened 7 (some 0) none := by simpa [station, halted] using hr
    subst hr
    simp [Row.opened, Cell.empty] at hx

/-- A row with a leader's report, whose source age a follower takes. -/
theorem witness_StepKeepsTimeSound_ages : (row501.reportOf 1).any (fun x => decide (x.sourceAge ≤ maxCount32)) = true := by decide

theorem witness_StepKeepsSilence : (station .member).Silent ∧ (station .member).member.Sound :=
  ⟨⟨by decide, by decide, by decide⟩, by simp [Member.Sound, station, halted, Member.afterStart]⟩

theorem witness_StepKeepsRanges_rows : (station .member).table.Sound ∧ (station .member).CountsSound :=
  ⟨⟨by decide, by decide⟩, ⟨by decide, by decide, by decide, by decide, by decide, by intro x h; cases h⟩⟩

theorem witness_StepKeepsRanges_store : State.reset.store.Sound := ⟨List.length_replicate, by intro r h; cases h⟩

theorem witness_StepKeepsRanges_channels : (station .member).ChannelsSound := by
  intro i
  have hf : (station .member).front[i] = FrontEnd.afterStart 0 := by simp [station, halted, State.reset]
  have hd : (station .member).dec[i] = DecChannel.afterStart := by simp [station, halted, State.reset]
  rw [hf, hd]
  exact ⟨⟨by decide, by decide, by decide, by decide⟩, ⟨by decide, by decide, by decide, by decide⟩⟩

/-- The channel of the glide example one boundary into its glide. -/
def gliding : CorrChannel := glideAt resting 14260 false

theorem witness_StepKeepsCorrectionSound_gliding : ChannelSetup.off.Sound ∧ gliding.glide.isSome = true ∧ gliding.Sound glideSetup := by
  refine ⟨⟨by decide, by decide, ?_⟩, by decide, ⟨by decide, ?_, ?_⟩⟩
  · intro g h
    cases h
  · intro h
    exact absurd h (by decide)
  · intro g h
    have e : g = { startOffset := 1200, startScale := 500, targetOffset := 2000, targetScale := 800, counter := 1 } :=
      (Option.some.inj ((show gliding.glide = some _ from by decide).symm.trans h)).symm
    subst e
    exact ⟨⟨4, by decide⟩, by decide, by decide⟩

theorem witness_StepKeepsCorrectionSound : (station .member).CorrectionSound := by
  have h : ∀ i : Channel, (station .member).setup.channels[i] = ChannelSetup.off := by
    intro i
    simp [station, plainSetup, Setup.halted]
  refine ⟨fun i => ?_, fun _ i hi => ?_⟩
  · rw [h i]
    exact ⟨by decide, by decide, by intro g e; cases e⟩
  · rw [h i] at hi
    exact absurd hi (by decide)

theorem witness_StepKeepsArchiveSound_ring : Retention.RingSound Retention.fresh := by
  refine ⟨by decide, by decide, ?_, by decide, ?_, ?_, by decide, by decide, by decide⟩
  · intro i h
    simp [Retention.fresh] at h
  · intro x h
    simp [Retention.fresh] at h
  · intro x h
    simp [Retention.fresh] at h

theorem witness_StepKeepsArchiveSound : (queued (some 0)).retention = Retention.fresh ∧
    ({ queued (some 0) with retention := { Retention.fresh with nextSeq := 2 } } : State).ArchiveSound := by
  refine ⟨rfl, ⟨?_, by decide, by decide, by decide, ?_, by decide, (by intro q h; cases h), (by intro h; cases h)⟩⟩
  · refine ⟨by decide, by decide, ?_, by decide, ?_, ?_, by decide, by decide, by decide⟩
    · intro i h
      simp [Retention.fresh] at h
    · intro x h
      simp [Retention.fresh] at h
    · intro x h
      simp [Retention.fresh] at h
  · intro k h
    have e : k = 0 := (Option.some.inj h).symm
    subst e
    decide

end Sys2Proof.Tests
end

section
/-! SUPPORT. The drift table's lookup and its clearing (R21 to R25): the bin of a temperature, the nearest trusted bins, the estimate of each
case of R25, and the two statements about them. -/

namespace Sys2Proof.Machine

/-! ### The bin of a temperature (R21) -/

/-- The outer bins reach beyond their edges, so that every temperature has its bin. -/
theorem driftBinOf_of_covers (temp : Int) (i : Fin 16) (hlo : i.val = 0 ∨ -20000 + 4000 * (i.val : Int) ≤ temp)
    (hhi : i.val = 15 ∨ temp < -20000 + 4000 * (i.val + 1 : Int)) : driftBinOf temp = i := by
  have hi := i.isLt
  have hdiv : (temp + 20000).fdiv 4000 = (temp + 20000) / 4000 := Int.fdiv_eq_ediv_of_nonneg _ (by decide)
  apply Fin.ext
  simp only [driftBinOf, hdiv, clampInt_eq 0 15 _ (by decide)]
  omega

/-! ### The nearest trusted bins (R25) -/

theorem DriftBin.trusted_iff (b : DriftBin) : b.trusted = true ↔ 8 ≤ b.weight := decide_eq_true_iff

theorem DriftBin.trusted_eq_false_iff (b : DriftBin) : b.trusted = false ↔ b.weight < 8 := by
  rw [← Bool.not_eq_true, b.trusted_iff, Nat.not_le]

/-- What a side of the lookup searches for, below and above alike: `m < n` puts the bin on that side. -/
theorem trustedOnSide_iff (b : DriftBin) (m n : Nat) : (decide (m < n) && b.trusted) = true ↔ m < n ∧ 8 ≤ b.weight := by
  rw [Bool.and_eq_true, decide_eq_true_iff, b.trusted_iff]

/-- In a list sorted by `r`, the first member that meets `p` is the one before which none does. -/
theorem head?_filter_of_pairwise {α : Type} {r : α → α → Prop} {p : α → Bool} {a : α} (hp : p a = true)
    (hfirst : ∀ b, r b a → ¬p b = true) : ∀ {l : List α}, l.Pairwise r → a ∈ l → (l.filter p).head? = some a
  | [], _, ha => by simp at ha
  | b :: l, hl, ha => by
    obtain rfl | hmem := List.mem_cons.mp ha
    · simp [hp]
    · have hb : ¬p b = true := hfirst b (List.rel_of_pairwise_cons hl hmem)
      simpa [hb] using head?_filter_of_pairwise hp hfirst hl.of_cons hmem

section

variable (drift : Vector DriftBin 16) (i : Fin 16)

theorem trustedAbove_eq_some (hi : Fin 16) (hlt : i < hi) (h : 8 ≤ drift[hi].weight)
    (hbetween : ∀ j : Fin 16, i < j → j < hi → drift[j].weight < 8) : trustedAbove drift i = some hi := by
  refine head?_filter_of_pairwise (r := (· < ·)) (a := hi) ((trustedOnSide_iff _ _ _).mpr ⟨hlt, h⟩) (fun j hj hp => ?_)
    (List.pairwise_lt_finRange 16) (List.mem_finRange hi)
  obtain ⟨hij, hw⟩ := (trustedOnSide_iff _ _ _).mp hp
  exact absurd hw (Nat.not_le.mpr (hbetween j hij hj))

/-- The last trusted bin of the list is the first of its reverse. -/
theorem trustedBelow_eq_some (lo : Fin 16) (hlt : lo < i) (h : 8 ≤ drift[lo].weight)
    (hbetween : ∀ j : Fin 16, lo < j → j < i → drift[j].weight < 8) : trustedBelow drift i = some lo := by
  unfold trustedBelow
  rw [List.getLast?_eq_head?_reverse, ← List.filter_reverse]
  refine head?_filter_of_pairwise (r := (· > ·)) (a := lo) ((trustedOnSide_iff _ _ _).mpr ⟨hlt, h⟩) (fun j hj hp => ?_)
    (List.pairwise_reverse.mpr (List.pairwise_lt_finRange 16)) (List.mem_reverse.mpr (List.mem_finRange lo))
  obtain ⟨hji, hw⟩ := (trustedOnSide_iff _ _ _).mp hp
  exact absurd hw (Nat.not_le.mpr (hbetween j hj hji))

theorem trustedAbove_eq_none (h : ∀ j : Fin 16, i < j → drift[j].weight < 8) : trustedAbove drift i = none := by
  refine List.head?_eq_none_iff.mpr (List.filter_eq_nil_iff.mpr fun j _ hp => ?_)
  obtain ⟨hij, hw⟩ := (trustedOnSide_iff _ _ _).mp hp
  exact absurd hw (Nat.not_le.mpr (h j hij))

theorem trustedBelow_eq_none (h : ∀ j : Fin 16, j < i → drift[j].weight < 8) : trustedBelow drift i = none := by
  refine List.getLast?_eq_none_iff.mpr (List.filter_eq_nil_iff.mpr fun j _ hp => ?_)
  obtain ⟨hji, hw⟩ := (trustedOnSide_iff _ _ _).mp hp
  exact absurd hw (Nat.not_le.mpr (h j hji))

end

/-! ### The estimate of a lookup, by the cases of R25 -/

section

variable {drift : Vector DriftBin 16} {temp : Int} {i : Fin 16} (hi : driftBinOf temp = i)

include hi

theorem driftEstimate_of_trusted (h : 8 ≤ drift[i].weight) : driftEstimate drift temp = some drift[i].estimate := by
  simp only [driftEstimate, hi, (DriftBin.trusted_iff _).mpr h, if_true]

theorem driftEstimate_of_between {lo up : Fin 16} (h : drift[i].weight < 8) (hlo : trustedBelow drift i = some lo)
    (hup : trustedAbove drift i = some up) :
    driftEstimate drift temp = some (drift[lo].estimate +
      ((drift[up].estimate - drift[lo].estimate) * (temp - driftCentre lo)).tdiv (driftCentre up - driftCentre lo)) := by
  simp only [driftEstimate, hi, (DriftBin.trusted_eq_false_iff _).mpr h, hlo, hup, Bool.false_eq_true, if_false]

theorem driftEstimate_of_below {lo : Fin 16} (h : drift[i].weight < 8) (hlo : trustedBelow drift i = some lo)
    (hup : trustedAbove drift i = none) : driftEstimate drift temp = some drift[lo].estimate := by
  simp only [driftEstimate, hi, (DriftBin.trusted_eq_false_iff _).mpr h, hlo, hup, Bool.false_eq_true, if_false]

theorem driftEstimate_of_above {up : Fin 16} (h : drift[i].weight < 8) (hlo : trustedBelow drift i = none)
    (hup : trustedAbove drift i = some up) : driftEstimate drift temp = some drift[up].estimate := by
  simp only [driftEstimate, hi, (DriftBin.trusted_eq_false_iff _).mpr h, hlo, hup, Bool.false_eq_true, if_false]

end

theorem driftEstimate_of_noneTrusted {drift : Vector DriftBin 16} {temp : Int} (h : ∀ j : Fin 16, drift[j].weight < 8) :
    driftEstimate drift temp = none := by
  have hlo := trustedBelow_eq_none drift (driftBinOf temp) fun j _ => h j
  have hup := trustedAbove_eq_none drift (driftBinOf temp) fun j _ => h j
  simp only [driftEstimate, (DriftBin.trusted_eq_false_iff _).mpr (h _), hlo, hup, Bool.false_eq_true, if_false]

/-! ### The value of a lookup (R25, R26) -/

theorem driftLookup_of_none {drift : Vector DriftBin 16} {temp : Int} (f : Int) (h : driftEstimate drift temp = none) :
    driftLookup drift temp f = f := by
  simp only [driftLookup, h]

/-- An estimate in the range of a bin's needs no limit once it is divided by 100. -/
theorem driftLookup_of_estimate {drift : Vector DriftBin 16} {temp d : Int} (f : Int) (h : driftEstimate drift temp = some d)
    (hlo : -1000000 ≤ d) (hhi : d ≤ 1000000) : driftLookup drift temp f = d.tdiv 100 := by
  have h1 : -10000 ≤ d.tdiv 100 := Int.tdiv_le_tdiv (by decide) hlo
  have h2 : d.tdiv 100 ≤ 10000 := Int.tdiv_le_tdiv (by decide) hhi
  simp only [driftLookup, h, clampCorrection_eq]
  omega

/-- Between two points a linear interpolation, its quotient cut toward zero, stays between their values. -/
theorem interpolate_mem {m a b x d : Int} (ha : -m ≤ a ∧ a ≤ m) (hb : -m ≤ b ∧ b ≤ m) (hx : 0 ≤ x) (hxd : x ≤ d) (hd : 0 < d) :
    -m ≤ a + ((b - a) * x).tdiv d ∧ a + ((b - a) * x).tdiv d ≤ m := by
  have hzero : ((b - a) * 0).tdiv d = 0 := by simp
  have hend : ((b - a) * d).tdiv d = b - a := Int.mul_tdiv_cancel _ (by omega)
  have mono {y z : Int} (h : (b - a) * y ≤ (b - a) * z) : ((b - a) * y).tdiv d ≤ ((b - a) * z).tdiv d := Int.tdiv_le_tdiv hd h
  rcases Int.le_total a b with hab | hab
  · have h0 := mono (Int.mul_le_mul_of_nonneg_left hx (by omega))
    have h1 := mono (Int.mul_le_mul_of_nonneg_left hxd (by omega))
    omega
  · have h0 := mono (Int.mul_le_mul_of_nonpos_left (by omega) hx)
    have h1 := mono (Int.mul_le_mul_of_nonpos_left (by omega) hxd)
    omega

/-- A lookup between two trusted bins, with a temperature between their centres. -/
theorem driftLookup_of_between {drift : Vector DriftBin 16} (hsound : ∀ j : Fin 16, drift[j].Sound) {temp : Int} {i lo up : Fin 16}
    (f : Int) (hbin : driftBinOf temp = i) (h : drift[i].weight < 8) (hlo : trustedBelow drift i = some lo)
    (hup : trustedAbove drift i = some up) (hx : driftCentre lo ≤ temp) (hxd : temp ≤ driftCentre up) (hd : lo < up) :
    driftLookup drift temp f = (drift[lo].estimate +
      ((drift[up].estimate - drift[lo].estimate) * (temp - driftCentre lo)).tdiv (driftCentre up - driftCentre lo)).tdiv 100 := by
  have hcentres : driftCentre lo < driftCentre up := by
    unfold driftCentre
    omega
  obtain ⟨hmin, hmax⟩ := interpolate_mem (hsound lo).estimate (hsound up).estimate (Int.sub_nonneg_of_le hx)
    (Int.sub_le_sub_right hxd _) (Int.sub_pos_of_lt hcentres)
  exact driftLookup_of_estimate f (driftEstimate_of_between hbin h hlo hup) hmin hmax

/-! ### The own boundary of a HOLDOVER station -/

theorem State.countedBoundary_tb (s : State) (temp : Int) :
    (s.countedBoundary temp).tb = s.tb.boundary s.retention.drift .counted 0 temp := by
  simp [State.countedBoundary]

theorem exec_ownBoundary_running (s : State) (temp : Int) (h : s.phase = .running) :
    exec (.ownBoundary temp) s = .next ((s.countedBoundary temp).latchFrom s) :=
  atWork_running s _ h

theorem Timebase.boundary_oscTemp (tb : Timebase) (drift : Vector DriftBin 16) (kind : BoundaryKind) (tick : Nat) (temp : Int) :
    (tb.boundary drift kind tick temp).oscTemp = temp := rfl

theorem Timebase.boundary_f_of_holdover (tb : Timebase) (drift : Vector DriftBin 16) (kind : BoundaryKind) (tick : Nat) (temp : Int)
    (h : tb.timeState = .holdover) : (tb.boundary drift kind tick temp).f = driftLookup drift temp tb.f :=
  if_pos h

theorem Timebase.enter_f (tb : Timebase) (ts : TimeState) : (tb.enter ts).f = tb.f := by
  unfold Timebase.enter
  split <;> rfl

/-- Settles O5: the boundary's f is the lookup at the temperature read, and each clause is the lookup's case of the same hypotheses. -/
theorem holdoverBoundaryLooksUpDrift : Obligations.HoldoverBoundaryLooksUpDrift := by
  refine ⟨fun s temp i hrun hhold hsound hcover hcover' => ?_, fun tb => tb.enter_f .holdover⟩
  have hbin : driftBinOf temp = i := driftBinOf_of_covers temp i hcover hcover'
  have hf : ((s.countedBoundary temp).latchFrom s).tb.f = driftLookup s.retention.drift temp s.tb.f := by
    rw [State.latchFrom_tb, State.countedBoundary_tb, Timebase.boundary_f_of_holdover _ _ _ _ _ hhold]
  have hestimate {k : Fin 16} (h : driftEstimate s.retention.drift temp = some s.retention.drift[k].estimate) :
      driftLookup s.retention.drift temp s.tb.f = s.retention.drift[k].estimate.tdiv 100 :=
    driftLookup_of_estimate _ h (hsound k).estimate.1 (hsound k).estimate.2
  refine ⟨_, exec_ownBoundary_running s temp hrun, ?oscTemp, ?trusted, ?between, ?oneSide, ?noneTrusted⟩
  case oscTemp =>
    rw [State.latchFrom_tb, State.countedBoundary_tb, Timebase.boundary_oscTemp]
  all_goals rw [hf]
  case trusted =>
    exact fun h => hestimate (driftEstimate_of_trusted hbin h)
  case between =>
    intro lo hi h hlo hhi hlow hhiw hgap
    have hbelow := trustedBelow_eq_some _ i lo hlo hlow fun j hj hji => hgap j hj (hji.trans hhi)
    have habove := trustedAbove_eq_some _ i hi hhi hhiw fun j hij hj => hgap j (hlo.trans hij) hj
    refine driftLookup_of_between hsound _ hbin h hbelow habove ?_ ?_ (hlo.trans hhi)
    all_goals
      unfold driftCentre
      omega
  case oneSide =>
    rintro k h hk (⟨hki, hnone⟩ | ⟨hik, hnone⟩)
    · exact hestimate (driftEstimate_of_below hbin h (trustedBelow_eq_some _ i k hki hk fun j hj _ => hnone j hj)
        (trustedAbove_eq_none _ i fun j hij => hnone j (hki.trans hij)))
    · exact hestimate (driftEstimate_of_above hbin h (trustedBelow_eq_none _ i fun j hji => hnone j (hji.trans hik))
        (trustedAbove_eq_some _ i k hik hk fun j _ hj => hnone j hj))
  case noneTrusted =>
    exact fun h => driftLookup_of_none _ (driftEstimate_of_noneTrusted h)

/-! ### The table cleared (R23) -/

/-- The drift table that CLEAR DRIFT TABLE writes. -/
def clearedDrift : Vector DriftBin 16 := Vector.replicate 16 { estimate := 0, weight := 0 }

theorem clearedDrift_get (i : Fin 16) : clearedDrift[i] = { estimate := 0, weight := 0 } := Vector.getElem_replicate _

theorem exec_clearDriftTable_command (s : State) (h : s.phase = .running) (h1 : s.port.trans = .command) (h2 : s.port.hold = .none) :
    exec .clearDriftTable s = .next (((s.setPort (({ s.port with args := [] } : Port).executing .clearDriftTable)).setRetention
      { s.retention with drift := clearedDrift }).result .done) :=
  s.execute_command .clearDriftTable [] (fun _ s => (s.setRetention { s.retention with drift := clearedDrift }).result .done)
    h h1 h2 (Nat.zero_le _)

/-- An empty bin learns by a divisor of 1, so it takes the value whole. -/
theorem DriftBin.learn_empty (x : Int) : ({ estimate := 0, weight := 0 } : DriftBin).learn x = { estimate := x, weight := 1 } := by
  simp [DriftBin.learn, countUp]

theorem qualify_clearedDrift (tb : Timebase) (h : tb.settleCount = 60) :
    (qualify tb clearedDrift).drift[driftBinOf tb.oscTemp] = { estimate := tb.f * 100, weight := 1 } := by
  rw [qualify_drift tb clearedDrift (by omega), if_pos rfl, clearedDrift_get, DriftBin.learn_empty]

theorem driftLookup_clearedDrift (temp f : Int) : driftLookup clearedDrift temp f = f := by
  refine driftLookup_of_none f (driftEstimate_of_noneTrusted fun j => ?_)
  rw [clearedDrift_get]
  decide

/-- Settles O51: the command writes the cleared table and its answer, and no
other block; the edge and the lookup are those of that table. -/
theorem clearDriftTableEmptiesBins : Obligations.ClearDriftTableEmptiesBins := by
  intro s hrun htrans hhold
  refine ⟨_, exec_clearDriftTable_command s hrun htrans hhold, clearedDrift_get, rfl, rfl, rfl, rfl, rfl, ?_,
    driftLookup_clearedDrift⟩
  rintro tb i hsettled rfl
  exact qualify_clearedDrift tb hsettled

end Sys2Proof.Machine
end

section
/-! SUPPORT. The election of a closing row (R39): the row's candidates, its incumbent, its best candidate, the branches of the
election, and the statement about them. -/

namespace Sys2Proof.Machine

/-! ### What R39 names -/

/-- Station k is a candidate, and x is its report. -/
def Row.IsCandidate (r : Row) (k : Station) (x : Report) : Prop := r.cells[k].state = .received ∧ r.cells[k].report = some x

/-- Station k is the best candidate: no candidate has a better rank, and none of the same rank has a lower number. -/
def Row.IsBest (r : Row) (k : Station) : Prop :=
  ∃ x, r.IsCandidate k x ∧ ∀ j y, r.IsCandidate j y → x.rank ≤ y.rank ∧ (y.rank = x.rank → k ≤ j)

/-- Station k is the one candidate that led. -/
def Row.IsIncumbent (r : Row) (k : Station) : Prop :=
  (∃ x, r.IsCandidate k x ∧ x.led = true) ∧ ∀ j y, r.IsCandidate j y → y.led = true → j = k

section

variable {r : Row} {k : Station} {x : Report}

/-! ### The candidates and their reports -/

theorem mem_stations (k : Station) : k ∈ stations := by
  revert k
  decide

theorem stations_pairwise_lt : stations.Pairwise (· < ·) := by decide

theorem Row.reportOf_eq_some_iff : r.reportOf k = some x ↔ r.IsCandidate k x := by
  simp [Row.reportOf, Cell.reportIn, Cell.received, Row.IsCandidate]

theorem Row.mem_candidates_iff : k ∈ r.candidates ↔ ∃ x, r.IsCandidate k x := by
  simp [Row.candidates, mem_stations, Option.isSome_iff_exists, Row.reportOf_eq_some_iff]

theorem Row.IsCandidate.rankOf_eq (h : r.IsCandidate k x) : r.rankOf k = x.rank := by
  rw [Row.rankOf, Row.reportOf_eq_some_iff.mpr h]

/-! ### The incumbent -/

theorem Row.mem_ledStations_iff : k ∈ r.ledStations ↔ ∃ x, r.IsCandidate k x ∧ x.led = true := by
  simp [Row.ledStations, Row.saidLed, mem_stations, Option.any_eq_true, Row.reportOf_eq_some_iff]

theorem Row.ledStations_nodup (r : Row) : r.ledStations.Nodup := (stations_pairwise_lt.imp fun h => h.ne).filter _

theorem Row.incumbent_eq_some_iff_ledStations : r.incumbent = some k ↔ r.ledStations = [k] := by
  unfold Row.incumbent
  split
  next j hled => simp [hled]
  next hled => simpa using hled k

theorem Row.incumbent_eq_some_iff : r.incumbent = some k ↔ r.IsIncumbent k := by
  rw [Row.incumbent_eq_some_iff_ledStations, ← List.perm_singleton,
    List.perm_ext_iff_of_nodup r.ledStations_nodup (List.nodup_singleton k)]
  simp only [Row.mem_ledStations_iff, List.mem_singleton, Row.IsIncumbent]
  constructor
  · exact fun h => ⟨(h k).mpr rfl, fun j y hy hled => (h j).mp ⟨y, hy, hled⟩⟩
  · rintro ⟨hk, honly⟩ j
    exact ⟨fun ⟨y, hy, hled⟩ => honly j y hy hled, fun hj => hj ▸ hk⟩

theorem Row.incumbent_eq_none (h : ∀ j, ¬r.IsIncumbent j) : r.incumbent = none :=
  Option.eq_none_iff_forall_ne_some.mpr fun j hj => h j (Row.incumbent_eq_some_iff.mp hj)

/-! ### The best rank and the best candidate -/

theorem Row.bestRank_eq_min (r : Row) : r.bestRank = (r.candidates.map r.rankOf).min?.getD 0 := by
  unfold Row.bestRank
  split
  next hcons => rw [hcons, List.min?_cons', Option.getD_some]
  next hnil => rw [hnil, List.min?_nil, Option.getD_none]

/-- The best rank is the rank of a candidate that no other is below. -/
theorem Row.bestRank_eq (hk : r.IsCandidate k x) (hbest : ∀ j y, r.IsCandidate j y → x.rank ≤ y.rank) : r.bestRank = x.rank := by
  have hmin : (r.candidates.map r.rankOf).min? = some x.rank := by
    refine List.min?_eq_some_iff.mpr ⟨List.mem_map.mpr ⟨k, Row.mem_candidates_iff.mpr ⟨x, hk⟩, hk.rankOf_eq⟩, ?_⟩
    intro n hn
    obtain ⟨j, hj, rfl⟩ := List.mem_map.mp hn
    obtain ⟨y, hy⟩ := Row.mem_candidates_iff.mp hj
    exact hy.rankOf_eq ▸ hbest j y hy
  rw [r.bestRank_eq_min, hmin, Option.getD_some]

theorem Row.bestCandidate_eq_none (h : ∀ k x, ¬r.IsCandidate k x) : r.bestCandidate = none := by
  have hempty : r.candidates = [] := List.eq_nil_iff_forall_not_mem.mpr fun k hk =>
    (Row.mem_candidates_iff.mp hk).elim (h k)
  simp [Row.bestCandidate, hempty]

theorem Row.IsBest.bestCandidate_eq (h : r.IsBest k) : r.bestCandidate = some k := by
  obtain ⟨x, hk, hbest⟩ := h
  have hrank : r.bestRank = x.rank := Row.bestRank_eq hk fun j y hy => (hbest j y hy).1
  rw [Row.bestCandidate, Row.candidates, List.filter_filter]
  refine head?_filter_of_pairwise ?_ (fun j hjk hjbest => ?_) stations_pairwise_lt (mem_stations k)
  · simp [hk.rankOf_eq, hrank, Row.reportOf_eq_some_iff.mpr hk]
  · obtain ⟨hjrank, hjreport⟩ := Bool.and_eq_true_iff.mp hjbest
    obtain ⟨y, hy⟩ := Option.isSome_iff_exists.mp hjreport
    have hj : r.IsCandidate j y := Row.reportOf_eq_some_iff.mp hy
    have hequal : y.rank = x.rank := by rw [← hj.rankOf_eq, ← hrank, beq_iff_eq.mp hjrank]
    exact Nat.not_le.mpr hjk ((hbest j y hj).2 hequal)

/-! ### The branches of the election -/

theorem Row.elect_of_no_incumbent (h : r.incumbent = none) : r.elect = r.bestCandidate := by
  rw [Row.elect, h]

theorem Row.elect_of_doubt (h : r.doubt = true) : r.elect = r.bestCandidate := by
  unfold Row.elect
  split <;> simp [h]

theorem Row.elect_of_joining (hinc : r.incumbent = some k) (hdoubt : r.doubt = false) (hjoin : r.joining = true) :
    r.elect = some k := by
  simp [Row.elect, hinc, hdoubt, hjoin]

theorem Row.elect_of_best_rank (hinc : r.incumbent = some k) (hdoubt : r.doubt = false) (hjoin : r.joining = false)
    (hrank : r.rankOf k = r.bestRank) : r.elect = some k := by
  simp [Row.elect, hinc, hdoubt, hjoin, hrank]

theorem Row.elect_of_better_rank (hinc : r.incumbent = some k) (hdoubt : r.doubt = false) (hjoin : r.joining = false)
    (hrank : r.bestRank < r.rankOf k) : r.elect = r.bestCandidate := by
  simp [Row.elect, hinc, hdoubt, hjoin, Nat.not_le.mpr hrank]

end

/-- Settles O20: each row of the table is a branch of the election, and what R39 names are the model's own terms. -/
theorem electionFollowsItsTable : Obligations.ElectionFollowsItsTable := by
  intro r candidate best incumbent
  refine ⟨fun _ _ _ => rfl, ?noCandidate, ?doubtOrNoIncumbent, ?joining, ?bestRank, ?betterRank⟩
  case noCandidate =>
    intro hnone
    have hinc : r.incumbent = none := Row.incumbent_eq_none fun k ⟨⟨x, hx, _⟩, _⟩ => hnone k x hx
    rw [Row.elect_of_no_incumbent hinc, Row.bestCandidate_eq_none hnone]
  case doubtOrNoIncumbent =>
    rintro k hk (hdoubt | hnone)
    · rw [Row.elect_of_doubt hdoubt, Row.IsBest.bestCandidate_eq hk]
    · rw [Row.elect_of_no_incumbent (Row.incumbent_eq_none hnone), Row.IsBest.bestCandidate_eq hk]
  case joining =>
    exact fun k hk hdoubt hjoin => Row.elect_of_joining (Row.incumbent_eq_some_iff.mpr hk) hdoubt hjoin
  case bestRank =>
    intro k x hk hx hdoubt hjoin hbest
    exact Row.elect_of_best_rank (Row.incumbent_eq_some_iff.mpr hk) hdoubt hjoin
      ((Row.IsCandidate.rankOf_eq hx).trans (Row.bestRank_eq hx hbest).symm)
  case betterRank =>
    rintro k x b hk hx hdoubt hjoin ⟨z, hz, hzbest⟩ ⟨j, y, hy, hlt⟩
    have hbelow : r.bestRank < r.rankOf k := by
      rw [Row.bestRank_eq hz fun j y hy => (hzbest j y hy).1, Row.IsCandidate.rankOf_eq hx]
      exact (hzbest j y hy).1.trans_lt hlt
    rw [Row.elect_of_better_rank (Row.incumbent_eq_some_iff.mpr hk) hdoubt hjoin hbelow]
    exact Row.IsBest.bestCandidate_eq ⟨z, hz, hzbest⟩

end Sys2Proof.Machine
end

section
/-! SUPPORT. What every command answers, said once for a predicate on the state after it: the shapes in which a command is carried out (at
work, at the hut, by the readout port), the queue, and a step. -/

namespace Sys2Proof.Machine

/-- The outcome is a next state, and that state meets `P`. -/
def Answers (P : State → Prop) (o : Host.Outcome State Fault Refusal) : Prop := ∃ t, o = .next t ∧ P t

variable {P : State → Prop} {s t : State}

theorem answers_next (h : P t) : Answers P (.next t) := ⟨t, rfl, h⟩

/-- What an answer is known to meet, it meets. -/
theorem Answers.of_eq {o : Host.Outcome State Fault Refusal} (h : Answers P o) (ht : o = .next t) : P t := by
  obtain ⟨u, hu, hP⟩ := h
  obtain rfl : u = t := by simpa [hu] using ht
  exact hP

/-- A command with two cases. -/
theorem answers_ite {c : Prop} [Decidable c] {u : State} (ht : c → P t) (hu : ¬c → P u) :
    Answers P (.next (if c then t else u)) := by
  split
  next h => exact answers_next (ht h)
  next h => exact answers_next (hu h)

theorem atWork_answers {g : State → State} (h : P s) (hg : s.phase = .running → P (g s)) : Answers P (atWork s g) :=
  answers_ite (fun hrun => hg (s.running_iff.mp hrun)) fun _ => h

theorem atHut_answers {g : State → State} (h : P s) (hg : s.AtHut → P (g s)) : Answers P (atHut s g) :=
  answers_ite (fun hact => hg (s.active_iff.mp hact)) fun _ => h

/-- The transaction that awaits a command is left by its execution as the command alone makes it, its command byte just taken or not. -/
theorem Port.executing_of_awaits {p q : Port} {c : PortCommand} (h : p.awaits c = some q) (args : List Bool) :
    ({ q with args := args } : Port).executing c = ({ p with args := args } : Port).executing c := by
  unfold Port.awaits at h
  split at h
  · cases h
    rw [Port.takeByte, PortCommand.ofByte_code]
    rfl
  · split at h <;> cases h
    rfl
  all_goals cases h

/-- A row of a command of the readout port: more argument bits are to come, a port hold answers BUSY, or the command is carried out on its
argument bytes; and outside a transaction that awaits it nothing happens. -/
theorem execute_answers_cases {c : PortCommand} {bits : List Bool} {body : List Byte → State → State} (h : P s)
    (hpartial : ∀ p args, s.port.awaits c = some p → args.length < 8 * c.argCount → P (s.setPort { p with args := args }))
    (hbusy : ∀ args, P (s.setPort { ({ s.port with args := args } : Port).executing c with lastResult := .busy }))
    (hbody : ∀ args bytes, bytes.length = c.argCount → P (body bytes (s.setPort (({ s.port with args := args } : Port).executing c)))) :
    Answers P (s.execute c bits body) := by
  refine answers_ite (fun _ => ?_) fun _ => h
  split
  next => exact h
  next p hp =>
    dsimp only
    rw [Port.executing_of_awaits hp]
    split
    next hlt => exact hpartial p _ hp hlt
    next hlt =>
      split
      · refine hbody _ _ ?_
        rw [bytesOfPortBits_length]
        simp only [Port.executing, List.length_take]
        omega
      · exact hbusy _

/-- The same for what does not read the port. -/
theorem execute_answers {c : PortCommand} {bits : List Bool} {body : List Byte → State → State} (h : P s)
    (hport : ∀ p, P (s.setPort p)) (hbody : ∀ args p, P (body args (s.setPort p))) : Answers P (s.execute c bits body) :=
  execute_answers_cases h (fun _ _ _ _ => hport _) (fun _ => hport _) fun _ _ _ => hbody _ _

/-! ### The commands that end in an edge of the timebase -/

section

variable (hrise : ∀ s c, P s → P (s.rise c)) (hreach : ∀ s n, P s → P (s.reach n)) (hpins : ∀ s x, P s → P (s.setPins x))
  (hpulse : ∀ s x, P s → P (s.setMark { s.mark with pulse := x }))
  (hreference : ∀ s tick phase temp others, P s → P (s.referenceEdge tick phase (inReferenceWindow phase) temp others))
  (hclassify : ∀ s kind rise attributed tick temp others, P s → P (s.classify kind rise attributed tick temp others))

include hrise hreach

include hreference in
theorem exec_referenceEdge_answers (h : P s) (tick : Nat) (temp : Int) (others : Bool) :
    Answers P (exec (.referenceEdge tick temp others) s) := by
  dsimp only [exec]
  refine atWork_answers h fun _ => ?_
  dsimp only
  split
  · exact hreach _ _ h
  · exact hrise _ _ (hreference _ _ _ _ _ (hreach _ _ h))

include hpulse hclassify

include hpins in
theorem exec_leaderPulse_answers (h : P s) (tick : Nat) (temp : Int) : Answers P (exec (.leaderPulse tick temp) s) := by
  refine answers_next ?_
  dsimp only
  have hended := hpulse _ none (hpins _ { s.pins with markAsserted := false } h)
  split
  · exact hended
  · split
    · exact hrise _ _ (hclassify _ _ _ _ _ _ _ (hreach _ _ hended))
    · exact hended

theorem exec_fallbackPulse_answers (h : P s) (temp : Int) (others : Bool) : Answers P (exec (.fallbackPulse temp others) s) := by
  refine answers_next ?_
  dsimp only
  split
  · exact h
  · exact hrise _ _ (hclassify _ _ _ _ _ _ _ (hpulse _ _ (hreach _ _ h)))

end

/-- What an edge of the timebase, taken or stepped to, leaves as it was met, whatever the edge: it does not read the timebase. -/
structure KeptAtEdges (P : State → Prop) : Prop where
  rise : ∀ s c, P s → P (s.rise c)
  reach : ∀ s n, P s → P (s.reach n)
  setPins : ∀ s x, P s → P (s.setPins x)
  setPulse : ∀ s x, P s → P (s.setMark { s.mark with pulse := x })
  takeEdge : ∀ s o, P s → P (s.takeEdge o)
  labelEdge : ∀ s phase, P s → P (s.labelEdge phase)
  recordPulse : ∀ s kind rise attributed phase taken, P s → P (s.recordPulse kind rise attributed phase taken)
  stepTo : ∀ s kind cause collected shift tick temp others, kind.isStep = true → P s →
    P (s.stepTo kind cause collected shift tick temp others)

namespace KeptAtEdges

variable (hP : KeptAtEdges P)

include hP

theorem referenceEdge (s : State) (tick : Nat) (phase temp : Int) (others : Bool) (h : P s) :
    P (s.referenceEdge tick phase (inReferenceWindow phase) temp others) := by
  unfold State.referenceEdge
  extract_lets tb o s'
  have hs' : P s' := hP.takeEdge s o h
  split
  · exact hP.stepTo _ _ _ _ _ _ _ _ rfl hs'
  · split
    · exact hP.labelEdge _ _ hs'
    · exact hs'

theorem classify (s : State) (kind : MarkKind) (rise attributed : Int) (tick : Nat) (temp : Int) (others : Bool) (h : P s) :
    P (s.classify kind rise attributed tick temp others) := by
  unfold State.classify
  extract_lets phase taken o s'
  have hs' : P s' := hP.takeEdge s o h
  split
  · exact hP.stepTo _ _ _ _ _ _ _ _ rfl hs'
  · exact hP.recordPulse _ _ _ _ _ _ hs'

theorem exec_referenceEdge (h : P s) (tick : Nat) (temp : Int) (others : Bool) :
    Answers P (exec (.referenceEdge tick temp others) s) :=
  exec_referenceEdge_answers hP.rise hP.reach hP.referenceEdge h tick temp others

theorem exec_leaderPulse (h : P s) (tick : Nat) (temp : Int) : Answers P (exec (.leaderPulse tick temp) s) :=
  exec_leaderPulse_answers hP.rise hP.reach hP.setPins hP.setPulse hP.classify h tick temp

theorem exec_fallbackPulse (h : P s) (temp : Int) (others : Bool) : Answers P (exec (.fallbackPulse temp others) s) :=
  exec_fallbackPulse_answers hP.rise hP.reach hP.setPulse hP.classify h temp others

end KeptAtEdges

/-! ### What a command writes -/

/-- The blocks of State, its queue apart. -/
inductive Block where
  | phase | pins | store | setup | retention | tb | mark | line | member | table
  | raised | front | events | dec | restartPending | corr | check | archive | port | freeReads

/-- The blocks that a step or a row close may write; what a command of the mark unit or a reference edge can reach. -/
def stepBlocks : List Block :=
  [.pins, .retention, .tb, .mark, .line, .member, .table, .raised, .front, .events, .dec, .restartPending, .corr, .check, .archive, .port]

/-- The blocks that a start may write: all but the memories that it recovers. -/
def startBlocks : List Block :=
  [.phase, .pins, .store, .setup, .tb, .mark, .line, .member, .table, .raised, .front, .events, .dec, .restartPending, .corr, .check,
   .archive, .port]

/-- The blocks that a command may write. -/
def commandWrites : Instr → List Block
  | .ownBoundary _ => [.tb, .mark, .line, .member, .table, .raised, .front, .events, .dec, .restartPending, .corr, .port]
  | .referenceEdge .. | .leaderPulse .. | .fallbackPulse .. => stepBlocks
  | .referenceWindowEnd => [.tb]
  | .markRise _ => [.pins, .tb, .mark]
  | .markPairRelease => [.pins, .mark]
  | .markAbsent | .leaderMarkEnd | .fallbackMark | .fallbackMarkEnd => [.tb, .mark]
  | .ownSlotStart => [.tb, .line, .table, .raised]
  | .slotStart _ | .frameFirstRise .. | .huntTimeout | .summaryWindow _ | .summaryWindowRise .. | .summaryWindowEnd => [.tb, .line]
  | .framingFault _ | .frameReceived _ | .slotEnd | .transmissionComplete | .summaryOrRead .. | .summaryHuntEnd => [.tb, .line, .table]
  | .collided _ => [.tb, .mark, .line, .member, .table]
  | .rowClose => [.retention, .tb, .mark, .member, .table, .raised, .events, .check, .archive, .port]
  | .chainWordSend | .chainWordEnd => [.tb, .member]
  | .chainWordReceived .. => [.tb, .mark, .line, .member, .table, .raised, .port]
  | .conversion .. => [.retention, .tb, .raised, .front, .dec, .port]
  | .filteredLevelChange .. => [.pins, .events]
  | .archiveWriteStart | .archiveWriteComplete => [.retention, .raised, .archive, .port]
  | .transactionBegin | .transactionEnd _ => [.pins, .port]
  | .unknownCommand _ | .readStatus | .statusResultClocked | .seek _ | .readEntries | .readRow _ | .readRoster | .readChannelState
  | .readDriftTable | .readSetup | .clearNotices _ | .stationRestart => [.port]
  | .entryImage _ => [.port, .freeReads]
  | .release _ | .clearDriftTable => [.retention, .port]
  | .setLabel _ => [.tb, .port]
  | .pipelineRestart => [.restartPending, .port]
  | .programSetup .. => [.pins, .store, .port]
  | .setupWriteComplete => [.store, .port]
  | .powerOn | .powerLoss | .resetAssert | .resetRelease | .restartStart | .startComplete _ => startBlocks

/-- The queue and every block that is not in a list stand as they were. -/
structure Unwritten (written : List Block) (s t : State) : Prop where
  pending : t.pending = s.pending
  phase : Block.phase ∉ written → t.phase = s.phase
  pins : Block.pins ∉ written → t.pins = s.pins
  store : Block.store ∉ written → t.store = s.store
  setup : Block.setup ∉ written → t.setup = s.setup
  retention : Block.retention ∉ written → t.retention = s.retention
  tb : Block.tb ∉ written → t.tb = s.tb
  mark : Block.mark ∉ written → t.mark = s.mark
  line : Block.line ∉ written → t.line = s.line
  member : Block.member ∉ written → t.member = s.member
  table : Block.table ∉ written → t.table = s.table
  raised : Block.raised ∉ written → t.raised = s.raised
  front : Block.front ∉ written → t.front = s.front
  events : Block.events ∉ written → t.events = s.events
  dec : Block.dec ∉ written → t.dec = s.dec
  restartPending : Block.restartPending ∉ written → t.restartPending = s.restartPending
  corr : Block.corr ∉ written → t.corr = s.corr
  check : Block.check ∉ written → t.check = s.check
  archive : Block.archive ∉ written → t.archive = s.archive
  port : Block.port ∉ written → t.port = s.port
  freeReads : Block.freeReads ∉ written → t.freeReads = s.freeReads

theorem Unwritten.refl (written : List Block) (s : State) : Unwritten written s s := by
  constructor <;> intros <;> rfl

theorem setPort_unwritten {written : List Block} {p : Port} (h : Block.port ∈ written) : Unwritten written s (s.setPort p) := by
  constructor <;> simp [h]

/-- How a command is carried out: at work, at the hut, by the readout port, or in every phase. -/
inductive Carried where
  | atWork | atHut | byPort | always

/-- How each command is carried out. -/
def carriedOut : Instr → Carried
  | .ownBoundary _ | .rowClose | .archiveWriteStart | .archiveWriteComplete | .unknownCommand _ | .statusResultClocked | .restartStart
  | .referenceWindowEnd | .setupWriteComplete | .conversion .. | .referenceEdge .. | .entryImage _ => .atWork
  | .slotStart _ | .framingFault _ | .frameReceived _ | .summaryWindowEnd | .ownSlotStart | .huntTimeout | .transmissionComplete
  | .summaryOrRead .. | .chainWordEnd | .summaryWindow _ | .chainWordReceived .. | .summaryHuntEnd | .leaderMarkEnd | .fallbackMark
  | .fallbackMarkEnd | .markAbsent | .chainWordSend | .frameFirstRise .. | .slotEnd | .collided _ | .summaryWindowRise .. => .atHut
  | .readStatus | .readEntries | .readRoster | .readChannelState | .readDriftTable | .readSetup | .clearNotices _ | .clearDriftTable
  | .pipelineRestart | .stationRestart | .readRow _ | .setLabel _ | .programSetup .. | .seek _ | .release _ => .byPort
  | .markPairRelease | .powerOn | .powerLoss | .filteredLevelChange .. | .startComplete _ | .transactionBegin | .markRise _
  | .transactionEnd _ | .resetAssert | .resetRelease | .leaderPulse .. | .fallbackPulse .. => .always

theorem exec_unwritten_of_atWork {c : Instr} (hc : carriedOut c = .atWork) (s : State) :
    Answers (Unwritten (commandWrites c) s) (exec c s) := by
  cases c with
  | ownBoundary | rowClose | archiveWriteStart | archiveWriteComplete | unknownCommand | statusResultClocked | restartStart
  | referenceWindowEnd | setupWriteComplete =>
    dsimp only [exec]
    refine atWork_answers (.refl _ s) fun _ => ?_
    repeat' split
    all_goals constructor <;> simp [commandWrites, startBlocks]
  | conversion | referenceEdge =>
    dsimp only [exec]
    refine atWork_answers (.refl _ s) fun _ => ?_
    dsimp only
    split
    all_goals constructor <;> simp [commandWrites, stepBlocks]
  | entryImage =>
    dsimp only [exec]
    refine atWork_answers (.refl _ s) fun _ => ?_
    split
    · rw [State.clock_frame]
      constructor <;> simp [commandWrites]
    · exact .refl _ s
  | _ => cases hc

theorem exec_unwritten_of_atHut {c : Instr} (hc : carriedOut c = .atHut) (s : State) :
    Answers (Unwritten (commandWrites c) s) (exec c s) := by
  cases c with
  | slotStart | framingFault | frameReceived | summaryWindowEnd | ownSlotStart | huntTimeout | transmissionComplete | summaryOrRead
  | chainWordEnd | summaryWindow | chainWordReceived =>
    dsimp only [exec]
    refine atHut_answers (.refl _ s) fun _ => ?_
    repeat' split
    all_goals constructor <;> simp [commandWrites]
  | summaryHuntEnd | leaderMarkEnd | fallbackMark
  | fallbackMarkEnd | markAbsent | chainWordSend | frameFirstRise | slotEnd | collided | summaryWindowRise =>
    dsimp only [exec]
    refine atHut_answers (.refl _ s) fun _ => ?_
    dsimp only
    repeat' split
    all_goals constructor <;> simp [commandWrites]
  | _ => cases hc

theorem exec_unwritten_of_byPort {c : Instr} (hc : carriedOut c = .byPort) (s : State) :
    Answers (Unwritten (commandWrites c) s) (exec c s) := by
  cases c with
  | readStatus | readEntries | readRoster | readChannelState | readDriftTable | readSetup | clearNotices | clearDriftTable
  | pipelineRestart | stationRestart | readRow | setLabel | programSetup =>
    dsimp only [exec]
    refine execute_answers (.refl _ s) (fun _ => setPort_unwritten (by simp [commandWrites])) fun _ _ => ?_
    repeat' split
    all_goals constructor <;> simp [commandWrites]
  | seek | release =>
    dsimp only [exec]
    refine execute_answers (.refl _ s) (fun _ => setPort_unwritten (by simp [commandWrites])) fun _ _ => ?_
    dsimp only
    repeat' split
    all_goals constructor <;> simp [commandWrites]
  | _ => cases hc

theorem exec_unwritten_of_always {c : Instr} (hc : carriedOut c = .always) (s : State) :
    Answers (Unwritten (commandWrites c) s) (exec c s) := by
  cases c with
  | markPairRelease | powerOn | powerLoss | filteredLevelChange | startComplete =>
    refine answers_next ?_
    repeat' split
    all_goals constructor <;> simp [commandWrites, startBlocks]
  | transactionBegin | markRise | transactionEnd | resetAssert | resetRelease | leaderPulse | fallbackPulse =>
    refine answers_next ?_
    dsimp only
    repeat' split
    all_goals constructor <;> simp [commandWrites, stepBlocks, startBlocks]
  | _ => cases hc

/-- A command writes no block but those it may write. -/
theorem exec_unwritten (c : Instr) (s : State) : Answers (Unwritten (commandWrites c) s) (exec c s) := by
  match hc : carriedOut c with
  | .atWork => exact exec_unwritten_of_atWork hc s
  | .atHut => exact exec_unwritten_of_atHut hc s
  | .byPort => exact exec_unwritten_of_byPort hc s
  | .always => exact exec_unwritten_of_always hc s

/-! ### The queue and a step -/

/-- Settles O1: `step` and the two sides of `step_cons` are one text. -/
theorem stepRunsFrontCommand : Obligations.StepRunsFrontCommand := fun c rest s => step_cons c rest (s.setPending (c :: rest)) rfl

/-- Settles O2: the queue is none of the blocks that a command may write. -/
theorem everyCommandAnswersNext : Obligations.EveryCommandAnswersNext := fun c s => by
  obtain ⟨t, ht, hwritten⟩ := exec_unwritten c s
  exact ⟨t, ht, hwritten.pending⟩

/-- What does not read the queue and is kept by every command is kept by every step. -/
theorem step_keeps (hpending : ∀ s rest, P s → P (s.setPending rest)) (hexec : ∀ c s, P s → Answers P (exec c s)) (h : P s)
    (ht : step s = .next t) : P t := by
  match hs : s.pending with
  | [] =>
    rw [step_nil s hs] at ht
    cases ht
    exact h
  | c :: rest =>
    rw [step_cons c rest s hs] at ht
    exact (hexec c _ (hpending s rest h)).of_eq ht

end Sys2Proof.Machine
end

section
/-! SUPPORT. The parts of an own boundary and of a step, field by field: what the blocks at a boundary leave, and the station as a step has
closed the epoch in progress, before the other blocks' part of the boundary (R7). -/

namespace Sys2Proof.Machine

/-! ### The blocks at an own boundary -/

section

variable (s : State) (v : BoundaryView) (b : Bool)

theorem State.blocksAtBoundary_front_eq :
    (s.blocksAtBoundary v b).front = if v.flush then mapAll s.front FrontEnd.flush else s.front := by
  simp [State.blocksAtBoundary, State.channelBoundary]

theorem State.blocksAtBoundary_dec_eq :
    (s.blocksAtBoundary v b).dec =
      mapAllIdx s.dec fun i d => d.boundary s.setup.channels[i].kind s.setup.stage v.flush s.tb.epochNumber := by
  simp [State.blocksAtBoundary, State.channelBoundary]

theorem State.blocksAtBoundary_events_eq : (s.blocksAtBoundary v b).events = s.events.sample s.setup := by
  simp [State.blocksAtBoundary, State.lineBoundary]

theorem State.blocksAtBoundary_restartPending_eq : (s.blocksAtBoundary v b).restartPending = false := by
  simp [State.blocksAtBoundary, State.channelBoundary]

/-- What a boundary makes of a channel's correction, in terms of the station after it. -/
theorem State.blocksAtBoundary_corr_get (i : Channel) :
    (s.blocksAtBoundary v b).corr[i] = s.corr[i].boundary s.setup.channels[i] (s.blocksAtBoundary v b).dec[i].value
      (sourceTemperature s.setup.channels[i] (s.blocksAtBoundary v b).dec s.member.roster s.tb.epochNumber)
      (s.blocksAtBoundary v b).hutAttended := by
  have hroster : ((((s.markBoundary v).lineBoundary v b).openRow v).channelBoundary v).member.roster = s.member.roster := by
    simp [State.lineBoundary, Member.boundary]
  simp only [State.blocksAtBoundary, State.correctionBoundary, State.hutAttended, State.setCorr_corr, State.setCorr_dec,
    State.setCorr_table, mapAllIdx_get, hroster, State.channelBoundary_setup, State.channelBoundary_corr, State.channelBoundary_tb,
    State.openRow_setup, State.openRow_corr, State.openRow_tb, State.lineBoundary_setup, State.lineBoundary_corr,
    State.lineBoundary_tb, State.markBoundary_setup, State.markBoundary_corr, State.markBoundary_tb]

end

/-! ### The step -/

/-- The station at a step (R7) once the line's activity has ended, the own mark is released, TIME_STEP is raised, the timebase has begun its
new epoch and the open row is cut. -/
def State.cutAtStep (s : State) (kind : BoundaryKind) (collected : TimeState) (tick : Nat) (oscTemp : Int) (others : Bool) : State :=
  let s := (s.endLineActivity.releaseMark others).raise .timeStep
  let s := s.setTb (s.tb.boundary s.retention.drift kind tick oscTemp)
  s.closeRow true collected

section

variable (s : State) (kind : BoundaryKind) (cause : Option (MarkKind × Int)) (collected : TimeState) (shift : Int) (tick : Nat)
  (temp : Int) (others : Bool)

/-- What the other blocks see of a step. -/
theorem State.stepTo_eq : s.stepTo kind cause collected shift tick temp others =
    (s.cutAtStep kind collected tick temp others).blocksAtBoundary
      { kind := kind, flush := true, asserted := s.assertedByOthers others, cause := cause, shift := shift } true := by
  have hasserted : (s.endLineActivity.releaseMark others).pins.markAsserted = s.assertedByOthers others := by
    simp [State.releaseMark, State.assertedByOthers]
  rw [← hasserted]
  rfl

@[simp] theorem State.cutAtStep_phase : (s.cutAtStep kind collected tick temp others).phase = s.phase := by simp [State.cutAtStep]
@[simp] theorem State.cutAtStep_store : (s.cutAtStep kind collected tick temp others).store = s.store := by simp [State.cutAtStep]
@[simp] theorem State.cutAtStep_setup : (s.cutAtStep kind collected tick temp others).setup = s.setup := by simp [State.cutAtStep]
@[simp] theorem State.cutAtStep_front : (s.cutAtStep kind collected tick temp others).front = s.front := by simp [State.cutAtStep]
@[simp] theorem State.cutAtStep_dec : (s.cutAtStep kind collected tick temp others).dec = s.dec := by simp [State.cutAtStep]
@[simp] theorem State.cutAtStep_restartPending : (s.cutAtStep kind collected tick temp others).restartPending = s.restartPending := by
  simp [State.cutAtStep]
@[simp] theorem State.cutAtStep_corr : (s.cutAtStep kind collected tick temp others).corr = s.corr := by simp [State.cutAtStep]
@[simp] theorem State.cutAtStep_freeReads : (s.cutAtStep kind collected tick temp others).freeReads = s.freeReads := by
  simp [State.cutAtStep]
@[simp] theorem State.cutAtStep_pending : (s.cutAtStep kind collected tick temp others).pending = s.pending := by simp [State.cutAtStep]

end

end Sys2Proof.Machine
end

section
/-! SUPPORT. The correction unit's invariant (R144, R147): every channel setup that a start can put in force, every bin decision and every
start keep a channel's applied coefficients on its bin's row or on a glide toward it. -/

namespace Sys2Proof.Machine

/-! ### Bin tables -/

theorem containingFrom_lt (t : Int) : ∀ (r : Nat) (rows : List BinRow), rows ≠ [] → containingFrom t r rows < r + rows.length
  | _, [], h => absurd rfl h
  | r, [_], _ => Nat.lt_succ_self r
  | r, _ :: b :: rest, _ => by
    have ih := containingFrom_lt t (r + 1) (b :: rest) (List.cons_ne_nil _ _)
    rw [containingFrom]
    split <;> simp only [List.length_cons] at ih ⊢ <;> omega

theorem rowContaining_lt {rows : List BinRow} (t : Int) (h : rows ≠ []) : rowContaining rows t < rows.length := by
  simpa [rowContaining] using containingFrom_lt t 0 rows h

theorem ChannelSetup.Sound.rows_ne_nil {c : ChannelSetup} (h : c.Sound) : c.rows ≠ [] :=
  List.ne_nil_of_length_pos h.rows.1

theorem selectRow_lt {c : ChannelSetup} (h : c.Sound) {r : Nat} (t : Int) (hr : r < c.rows.length) :
    selectRow c r t < c.rows.length := by
  unfold selectRow
  extract_lets up down
  split
  · exact rowContaining_lt t h.rows_ne_nil
  · exact hr

/-! ### A channel's moves -/

section

variable {x : CorrChannel} {c : ChannelSetup}

/-- Only the bin and the applied coefficients are judged. -/
theorem CorrChannel.Sound.of_eq {y : CorrChannel} (h : x.Sound c) (hbin : y.bin = x.bin) (hoffset : y.offset = x.offset)
    (hscale : y.scale = x.scale) (hglide : y.glide = x.glide) : y.Sound c := by
  obtain ⟨hb, hrest, hgl⟩ := h
  constructor <;> rw [hbin] <;> simpa only [hglide, hoffset, hscale]

theorem CorrChannel.rest_sound (hbin : x.bin < c.rows.length) : (x.rest (c.row x.bin)).Sound c :=
  ⟨hbin, fun _ => ⟨rfl, rfl⟩, fun g hg => by simp [CorrChannel.rest] at hg⟩

/-- At its last counter a glide stands at its target. -/
theorem Glide.at_end {g : Glide} {length : Nat} (h0 : 0 < length) (h : g.counter = length) :
    g.offsetAt length = g.targetOffset ∧ g.scaleAt length = g.targetScale := by
  have hne : (length : Int) ≠ 0 := by omega
  simp [Glide.offsetAt, Glide.scaleAt, h, Int.mul_tdiv_cancel _ hne]

/-- A glide toward the bin's row that stands at a counter within its length: it runs on or, at its end, has reached the row. -/
theorem CorrChannel.applyGlide_sound {g : Glide} {length : Nat} (hbin : x.bin < c.rows.length) (hlength : c.glideLength = some length)
    (h1 : 1 ≤ g.counter) (h2 : g.counter ≤ length) (hoffset : g.targetOffset = (c.row x.bin).offset)
    (hscale : g.targetScale = (c.row x.bin).scale) : (x.applyGlide g length).Sound c := by
  refine ⟨hbin, fun hnone => ?_, fun g' hg' => ?_⟩
  · have hend : g.counter = length := by
      by_contra hne
      simp [CorrChannel.applyGlide, show g.counter < length by omega] at hnone
    obtain ⟨ho, hs⟩ := Glide.at_end (by omega) hend
    exact ⟨ho.trans hoffset, hs.trans hscale⟩
  · obtain ⟨hlt, rfl⟩ : g.counter < length ∧ g = g' := by simpa [CorrChannel.applyGlide] using hg'
    exact ⟨⟨length, hlength, h1, hlt, rfl, rfl⟩, hoffset, hscale⟩

theorem CorrChannel.changeBin_sound (hc : c.Sound) {r : Nat} (hr : r < c.rows.length) : (x.changeBin c r).Sound c := by
  unfold CorrChannel.changeBin
  dsimp only
  split
  next => exact CorrChannel.rest_sound (x := { x with bin := r }) hr
  next length hlength =>
    have hg := hc.glide length hlength
    exact CorrChannel.applyGlide_sound (x := { x with bin := r }) hr hlength (Nat.le_refl 1) (by dsimp only; omega) rfl rfl

theorem CorrChannel.advanceGlide_sound (h : x.Sound c) : (x.advanceGlide c).Sound c := by
  unfold CorrChannel.advanceGlide
  split
  next g length hg hlength =>
    obtain ⟨⟨n, hn, hone, hlt, -, -⟩, hoffset, hscale⟩ := h.glide g hg
    obtain rfl : length = n := by simpa [hlength] using hn
    exact CorrChannel.applyGlide_sound (g := { g with counter := g.counter + 1 }) h.bin hlength (Nat.le_add_left 1 _) hlt hoffset hscale
  next => exact h

theorem CorrChannel.decideBin_sound (hc : c.Sound) (h : x.Sound c) (temp : Option Int) (attended : Bool) :
    (x.decideBin c temp attended).channel.Sound c := by
  have frozen (f : Freeze) : ({ x with freeze := f } : CorrChannel).Sound c := h.of_eq rfl rfl rfl rfl
  unfold CorrChannel.decideBin
  split
  · exact h
  · split
    · split
      next t =>
        exact CorrChannel.rest_sound (x := { x with bin := rowContaining c.rows t, snapped := true, freeze := .none })
          (rowContaining_lt t hc.rows_ne_nil)
      next => exact h
    · split
      next t =>
        dsimp only
        split
        · exact CorrChannel.advanceGlide_sound (frozen .none)
        · exact CorrChannel.changeBin_sound hc (selectRow_lt hc t h.bin)
      next => exact CorrChannel.advanceGlide_sound (frozen .attended)
      next => exact CorrChannel.advanceGlide_sound (frozen .stale)

theorem CorrChannel.boundary_sound (hc : c.Sound) (h : x.Sound c) (value : Option EpochValue) (temp : Option Int) (attended : Bool) :
    (x.boundary c value temp attended).Sound c := by
  unfold CorrChannel.boundary
  split
  · exact h.of_eq rfl rfl rfl rfl
  · split
    any_goals exact (CorrChannel.decideBin_sound hc h temp attended).of_eq rfl rfl rfl rfl
    all_goals exact h.of_eq rfl rfl rfl rfl

theorem CorrChannel.afterStart_sound (hc : c.Sound) : (CorrChannel.afterStart c).Sound c :=
  ⟨hc.start, fun _ => ⟨rfl, rfl⟩, fun g hg => by simp [CorrChannel.afterStart] at hg⟩

end

/-! ### The settings that a start takes -/

theorem ChannelSetup.off_sound : ChannelSetup.off.Sound := by
  constructor <;> simp [ChannelSetup.off]

theorem Setup.halted_channels_get (i : Channel) : Setup.halted.channels[i] = ChannelSetup.off := Vector.getElem_replicate _

/-- A field that is judged holds its own value where that is in order, and its default elsewhere. -/
theorem checked_value {α : Type} (used ok : Bool) (v dflt : α) :
    (checked used ok v dflt).value = if used && ok then v else dflt := by
  unfold checked
  split <;> rfl

theorem checked_replaced {α : Type} (used ok : Bool) (v dflt : α) : (checked used ok v dflt).replaced = (used && !ok) := by
  unfold checked
  cases used <;> cases ok <;> rfl

theorem checkedRows_length (record : List Byte) (i : Channel) (used : Bool) :
    1 ≤ (checkedRows record i used).value.length ∧ (checkedRows record i used).value.length ≤ 16 := by
  unfold checkedRows
  dsimp only
  rw [checked_value]
  split
  next h =>
    simp only [Bool.and_eq_true, decide_eq_true_eq] at h
    simpa using h.2.1.1
  next => simp

theorem checkedMode_glide (record : List Byte) (i : Channel) (used : Bool) (g : Nat) (h : (checkedMode record i used).value = some g) :
    2 ≤ g := by
  unfold checkedMode at h
  dsimp only at h
  rw [checked_value] at h
  grind

theorem checkedChannel_sound (record : List Byte) (kinds : Vector ChannelKind 4) (i : Channel) :
    (checkedChannel record kinds i).value.Sound := by
  refine ⟨checkedRows_length record i _, ?_, checkedMode_glide record i _⟩
  have hrows := (checkedRows_length record i kinds[i].isField).1
  simp only [checkedChannel, checked_value]
  split
  next h => exact of_decide_eq_true (Bool.and_eq_true_iff.mp h).2
  next => exact hrows

theorem setupOfRecord_channels_sound (record : List Byte) (i : Channel) : (setupOfRecord record).channels[i].Sound := by
  unfold setupOfRecord
  split
  · simpa [acceptedSetup] using checkedChannel_sound record _ i
  · rw [Setup.halted_channels_get]
    exact ChannelSetup.off_sound

/-! ### The station -/

section

variable {s t : State}

theorem State.CorrectionSound.of_eq (h : s.CorrectionSound) (hphase : t.phase = s.phase) (hsetup : t.setup = s.setup)
    (hcorr : t.corr = s.corr) : t.CorrectionSound := by
  unfold State.CorrectionSound
  rw [hphase, hsetup, hcorr]
  exact h

theorem State.CorrectionSound.of_unwritten {written : List Block} (h : s.CorrectionSound) (ht : Unwritten written s t)
    (hphase : Block.phase ∉ written) (hsetup : Block.setup ∉ written) (hcorr : Block.corr ∉ written) : t.CorrectionSound :=
  h.of_eq (ht.phase hphase) (ht.setup hsetup) (ht.corr hcorr)

theorem State.CorrectionSound.blocksAtBoundary (h : s.CorrectionSound) (v : BoundaryView) (b : Bool) :
    (s.blocksAtBoundary v b).CorrectionSound := by
  refine ⟨by simpa using h.1, fun hrun i hfield => ?_⟩
  simp only [State.blocksAtBoundary_setup, State.blocksAtBoundary_phase] at hrun hfield ⊢
  rw [State.blocksAtBoundary_corr_get]
  exact CorrChannel.boundary_sound (h.1 i) (h.2 hrun i hfield) _ _ _

theorem State.CorrectionSound.stepTo (h : s.CorrectionSound) (kind : BoundaryKind) (cause : Option (MarkKind × Int))
    (collected : TimeState) (shift : Int) (tick : Nat) (temp : Int) (others : Bool) :
    (s.stepTo kind cause collected shift tick temp others).CorrectionSound := by
  rw [State.stepTo_eq]
  have hcut : (s.cutAtStep kind collected tick temp others).CorrectionSound := h.of_eq (by simp) (by simp) (by simp)
  exact hcut.blocksAtBoundary _ _

theorem State.CorrectionSound.keptAtEdges : KeptAtEdges State.CorrectionSound where
  rise _ _ h := h
  reach _ _ h := h
  setPins _ _ h := h
  setPulse _ _ h := h
  takeEdge _ _ h := h
  labelEdge _ _ h := h.of_eq (by simp) (by simp) (by simp)
  recordPulse _ _ _ _ _ _ h := h.of_eq (by simp) (by simp) (by simp)
  stepTo _ _ _ _ _ _ _ _ _ h := h.stepTo ..

theorem State.startValues_corr (s : State) (x : StartSamples) :
    (s.startValues x).corr = mapAll s.setup.channels CorrChannel.afterStart := rfl

/-- Before a start completes the setups alone are judged. -/
theorem State.blank_correctionSound (s : State) {p : Phase} (hp : p ≠ .running) : (s.blank p).CorrectionSound := by
  refine ⟨fun i => ?_, fun hrun => absurd hrun hp⟩
  rw [State.blank_setup, Setup.halted_channels_get]
  exact ChannelSetup.off_sound

theorem State.beginStart_correctionSound (s : State) : s.beginStart.CorrectionSound := by
  unfold State.beginStart
  split
  · exact s.blank_correctionSound (by decide)
  · exact ⟨setupOfRecord_channels_sound _, fun hrun => by simp at hrun⟩

theorem State.CorrectionSound.completeStart (h : s.CorrectionSound) (x : StartSamples) : (s.completeStart x).CorrectionSound := by
  have hvalues : (s.startValues x).CorrectionSound := by
    refine ⟨h.1, fun _ i _ => ?_⟩
    rw [State.startValues_corr, mapAll_get]
    exact CorrChannel.afterStart_sound (h.1 i)
  have hfirst : ((s.startValues x).raiseIf (s.startValues x).setupFaultHolds .setupFault).firstBoundary.CorrectionSound := by
    unfold State.firstBoundary
    exact State.CorrectionSound.blocksAtBoundary (hvalues.of_eq (by simp) (by simp) (by simp)) _ _
  unfold State.completeStart
  exact hfirst.of_eq (by simp) (by simp) (by simp)

end

theorem exec_correctionSound (c : Instr) (s : State) (h : s.CorrectionSound) : Answers State.CorrectionSound (exec c s) := by
  cases c with
  | ownBoundary temp =>
    refine atWork_answers h fun _ => ?_
    have hb : (s.countedBoundary temp).CorrectionSound :=
      State.CorrectionSound.blocksAtBoundary (h.of_eq (by simp) (by simp) (by simp)) _ _
    exact hb.of_eq (by simp) (by simp) (by simp)
  | referenceEdge => exact State.CorrectionSound.keptAtEdges.exec_referenceEdge h ..
  | leaderPulse => exact State.CorrectionSound.keptAtEdges.exec_leaderPulse h ..
  | fallbackPulse => exact State.CorrectionSound.keptAtEdges.exec_fallbackPulse h ..
  | powerOn => exact answers_next (State.beginStart_correctionSound _)
  | powerLoss => exact answers_next (State.blank_correctionSound _ (by decide))
  | resetAssert => exact answers_ite (fun _ => h.of_eq (by simp) (by simp) (by simp)) fun _ => State.beginStart_correctionSound _
  | resetRelease => exact answers_ite (fun _ => State.beginStart_correctionSound _) fun _ => h.of_eq (by simp) (by simp) (by simp)
  | restartStart => exact atWork_answers h fun _ => by split <;> [exact State.beginStart_correctionSound s; exact h]
  | startComplete x => exact answers_ite (fun _ => State.CorrectionSound.completeStart h x) fun _ => h
  | _ =>
    obtain ⟨t, ht, hw⟩ := exec_unwritten _ s
    exact ⟨t, ht, h.of_unwritten hw (by simp [commandWrites]) (by simp [commandWrites]) (by simp [commandWrites])⟩

/-- Settles O58: no other command writes a setup, the phase or the correction unit, and the four that do leave every channel sound. -/
theorem stepKeepsCorrectionSound : Obligations.StepKeepsCorrectionSound := fun _ _ h ht =>
  step_keeps (fun _ _ h => h) exec_correctionSound h ht

end Sys2Proof.Machine
end

section
/-! SUPPORT. Why not every step keeps `CountsSound`: the cell that ends a reception as a fault stays in it. -/

namespace Sys2Proof.Machine

open Sys2Proof.Tests

/-- A slot in RECEIVING that has read nine cells of its first byte: its stop cell is next. -/
def stopCellDue : State := receiving .receiving [] (List.replicate 9 true)

theorem stopCellDue_countsSound : stopCellDue.CountsSound where
  leaderless := by decide
  collisions := by decide
  quiet := by decide
  repeats := by decide
  missed := by decide
  cells x hx := by
    obtain rfl : _ = x := Option.some.inj hx
    decide

/-- A stop cell that reads asserted is the tenth cell of its byte, and the reception that it ends as a fault holds it. -/
theorem stopCellDue_framingFault : ∃ t, step (stopCellDue.setPending [.framingFault [true]]) = .next t ∧
    ∃ x, t.line.rx = some x ∧ x.cells.length = 10 := ⟨_, rfl, _, rfl, rfl⟩

/-- Refutes O57: a stop cell that reads asserted leaves ten cells in the reception that it ends, where `CountsSound` allows nine. -/
theorem not_stepKeepsRanges : ¬ Obligations.StepKeepsRanges := by
  unfold Obligations.StepKeepsRanges
  intro h
  obtain ⟨t, ht, x, hx, hlength⟩ := stopCellDue_framingFault
  obtain ⟨-, hcounts, -, -⟩ := h _ t ht
  have hsound : (stopCellDue.setPending [.framingFault [true]]).CountsSound :=
    have hs := stopCellDue_countsSound
    ⟨hs.leaderless, hs.collisions, hs.quiet, hs.repeats, hs.missed, hs.cells⟩
  have hnine := (hcounts hsound).cells x hx
  omega

end Sys2Proof.Machine
end

section
/-! SUPPORT. What the commands do to the epoch table: every one of them leaves it as a chain of a few kinds of change does, each of which keeps
what the written cells meet. -/

namespace Sys2Proof.Machine

/-- Every cell of a row meets `C`. -/
def Row.CellsMeet (C : Cell → Prop) (r : Row) : Prop := ∀ k : Station, C r.cells[k]

/-- The table after a chain of changes that write only cells that meet `C`. -/
inductive EpochTable.Moved (C : Cell → Prop) (t : EpochTable) : EpochTable → Prop where
  | refl : EpochTable.Moved C t t
  | early {u : EpochTable} (x : Option (MarkKind × Int)) (h : EpochTable.Moved C t u) : EpochTable.Moved C t { u with early := x }
  | mapOpen {u : EpochTable} (g : Row → Row) (hg : ∀ r, r.CellsMeet C → (g r).CellsMeet C) (h : EpochTable.Moved C t u) :
      EpochTable.Moved C t (u.mapOpen g)
  | openNew {u : EpochTable} (r : Row) (hr : r.CellsMeet C) (h : EpochTable.Moved C t u) : EpochTable.Moved C t (u.openNew r)
  | start : EpochTable.Moved C t EpochTable.afterStart

/-- A change at one place of an array keeps what every place meets. -/
theorem setAt_forall {α : Type} {n : Nat} {p : α → Prop} {v : Vector α n} {i : Fin n} {x : α} (hx : p x) (h : ∀ j : Fin n, p v[j])
    (j : Fin n) : p (setAt v i x)[j] := by
  by_cases hj : j = i
  · rw [hj, setAt_get_same]
    exact hx
  · rw [setAt_get_other v i j x hj]
    exact h j

namespace EpochTable

/-- The cells keep what every written cell meets. -/
theorem Moved.cells {C : Cell → Prop} {t u : EpochTable} (h : Moved C t u) (ht : ∀ r ∈ t.rows, r.CellsMeet C) :
    ∀ r ∈ u.rows, r.CellsMeet C := by
  induction h with
  | refl => exact ht
  | early x _ ih => exact ih
  | mapOpen g hg _ ih =>
    unfold EpochTable.mapOpen
    split
    next r rest hrows =>
      rw [hrows, List.forall_mem_cons] at ih
      split
      · exact List.forall_mem_cons.mpr ⟨hg r ih.1, ih.2⟩
      · rw [hrows]
        exact List.forall_mem_cons.mpr ih
    next => exact ih
  | openNew r hr _ ih =>
    refine List.forall_mem_cons.mpr ⟨hr, fun x hx => ?_⟩
    obtain ⟨y, hy, rfl⟩ := List.mem_map.mp hx
    exact ih y (List.mem_of_mem_take hy)
  | start => exact fun r hr => by cases hr

theorem Moved.mapCell {C : Cell → Prop} {t u : EpochTable} (h : Moved C t u) (k : Station) {g : Cell → Cell} (hg : ∀ c, C c → C (g c)) :
    Moved C t (u.mapCell k g) := by
  refine h.mapOpen _ fun r hr j => ?_
  exact setAt_forall (p := C) (hg _ (hr k)) hr j

end EpochTable

theorem Row.opened_cellsMeet {C : Cell → Prop} (h : C Cell.empty) (epoch : EpochNumber) (leader : Option Station)
    (record : Option (MarkKind × Int)) : (Row.opened epoch leader record).CellsMeet C := by
  intro k
  simpa [Row.opened] using h

/-- What the cells meet that the commands write at the state `s`. -/
structure State.WritesCells (C : Cell → Prop) (s : State) : Prop where
  empty : C Cell.empty
  damaged : ∀ kind, C (Cell.damagedBy kind)
  setState : ∀ c x, C c → C { c with state := x }
  judged : ∀ x : Reception, C x.judged.cell
  built : ∀ k, C { state := .empty, damage := none, report := some (s.buildReport k), own := true }

section

variable {C : Cell → Prop} {T : EpochTable} {s u : State} (hC : s.WritesCells C)

/-- The table of a state is a move of `T`. -/
def State.TableMoved (C : Cell → Prop) (T : EpochTable) (s : State) : Prop := T.Moved C s.table

theorem State.TableMoved.of_eq {v : State} (h : u.TableMoved C T) (hv : v.table = u.table) : v.TableMoved C T := by
  unfold State.TableMoved
  rw [hv]
  exact h

theorem State.closeRow_tableMoved (h : u.TableMoved C T) (cut : Bool) (collected : TimeState) :
    (u.closeRow cut collected).TableMoved C T := by
  unfold State.TableMoved
  cases hr : u.table.openRow with
  | none =>
    rw [State.closeRow_of_none _ _ _ hr]
    exact h
  | some r =>
    rw [State.closeRow_table_eq _ _ _ _ hr,
      ← EpochTable.mapOpen_of_open u.table (fun x => { x with isOpen := false, cut := cut }) r hr]
    exact h.mapOpen _ fun _ hcells => hcells

include hC

theorem State.abortTransmission_tableMoved (h : u.TableMoved C T) : u.abortTransmission.TableMoved C T := by
  unfold State.abortTransmission
  split
  · exact EpochTable.Moved.mapCell h _ fun c hc => hC.setState c _ hc
  · exact h

theorem State.endLineActivity_tableMoved (h : u.TableMoved C T) : u.endLineActivity.TableMoved C T := by
  have habort := State.abortTransmission_tableMoved hC h
  unfold State.endLineActivity
  dsimp only
  split
  · split
    · exact EpochTable.Moved.mapCell habort _ fun _ _ => hC.damaged _
    · exact habort
  · exact habort

theorem State.blocksAtBoundary_tableMoved (h : u.TableMoved C T) (v : BoundaryView) (b : Bool) :
    (u.blocksAtBoundary v b).TableMoved C T := by
  unfold State.TableMoved
  rw [State.blocksAtBoundary_table_eq]
  exact h.openNew _ (Row.opened_cellsMeet hC.empty _ _ _)

theorem State.tableMoved_keptAtEdges : KeptAtEdges (State.TableMoved C T) where
  rise _ _ h := h
  reach _ _ h := h
  setPins _ _ h := h
  setPulse _ _ h := h
  takeEdge _ _ h := h
  labelEdge u phase h := by
    unfold State.labelEdge
    dsimp only
    split
    · exact EpochTable.Moved.mapOpen _ (fun _ hcells => hcells) h
    · exact h
  recordPulse u kind rise attributed phase taken h := by
    unfold State.recordPulse
    dsimp only
    split
    · split
      · exact EpochTable.Moved.early _ h
      · exact EpochTable.Moved.mapOpen _ (fun _ hcells => hcells) h
    · exact h
  stepTo u kind cause collected shift tick temp others _ h := by
    rw [State.stepTo_eq]
    refine State.blocksAtBoundary_tableMoved hC (State.closeRow_tableMoved ?_ _ _) _ _
    exact (State.endLineActivity_tableMoved hC h).of_eq (by simp)

theorem State.leaveMember_tableMoved (h : u.TableMoved C T) : u.leaveMember.TableMoved C T :=
  (State.abortTransmission_tableMoved hC h).of_eq rfl

theorem State.adoptNumber_tableMoved (h : u.TableMoved C T) (k : Station) : (u.adoptNumber k).TableMoved C T := by
  unfold State.adoptNumber
  dsimp only
  split
  · exact State.leaveMember_tableMoved hC h
  all_goals exact h

theorem State.wordComplete_tableMoved (h : u.TableMoved C T) (number complement : BitVec 4) (stop : Bool) :
    (u.wordComplete number complement stop).TableMoved C T := by
  unfold State.wordComplete
  dsimp only
  split
  · split
    · exact State.adoptNumber_tableMoved hC (h.of_eq (State.setMember_table _ _)) _
    · exact h
  · exact h

theorem State.readWord_tableMoved (h : u.TableMoved C T) (rise : Int) (cells : List Bool) : (u.readWord rise cells).TableMoved C T := by
  unfold State.readWord
  dsimp only
  split
  · exact h
  · exact State.wordComplete_tableMoved (u := (u.reach _).setMember _) hC h _ _ _

theorem State.readFrame_tableMoved (h : u.TableMoved C T) (levels : List Bool) : (u.readFrame levels).TableMoved C T := by
  unfold State.readFrame
  split
  · exact h
  · split
    · split
      · exact h
      · exact EpochTable.Moved.mapCell h _ fun _ _ => hC.damaged _
      · exact EpochTable.Moved.mapCell h _ fun _ _ => hC.judged _
    · exact h

theorem State.completeStart_tableMoved (x : StartSamples) : (s.completeStart x).TableMoved C T := by
  have hvalues : ((s.startValues x).raiseIf (s.startValues x).setupFaultHolds .setupFault).TableMoved C T :=
    EpochTable.Moved.start
  have hfirst : ((s.startValues x).raiseIf (s.startValues x).setupFaultHolds .setupFault).firstBoundary.TableMoved C T := by
    unfold State.firstBoundary
    exact State.blocksAtBoundary_tableMoved hC (hvalues.of_eq (by simp)) _ _
  unfold State.completeStart
  exact hfirst.of_eq (by simp)

end

theorem State.beginStart_tableMoved (C : Cell → Prop) (T : EpochTable) (s : State) : s.beginStart.TableMoved C T := by
  unfold State.TableMoved
  rw [State.beginStart_table]
  exact .start

/-- Every command moves the table. -/
theorem exec_tableMoved {C : Cell → Prop} (c : Instr) (s : State) (hC : s.WritesCells C) :
    Answers (State.TableMoved C s.table) (exec c s) := by
  have h : s.TableMoved C s.table := .refl
  have hstart := State.beginStart_tableMoved C s.table
  have hedges : KeptAtEdges (State.TableMoved C s.table) := State.tableMoved_keptAtEdges hC
  cases c with
  | ownBoundary temp =>
    refine atWork_answers h fun _ => ?_
    have hb : (s.countedBoundary temp).TableMoved C s.table := State.blocksAtBoundary_tableMoved hC (h.of_eq (State.setTb_table _ _)) _ _
    exact hb.of_eq (by simp)
  | referenceEdge => exact hedges.exec_referenceEdge h ..
  | leaderPulse => exact hedges.exec_leaderPulse h ..
  | fallbackPulse => exact hedges.exec_fallbackPulse h ..
  | ownSlotStart =>
    dsimp only [exec]
    refine atHut_answers h fun _ => ?_
    split
    · exact h
    · exact EpochTable.Moved.mapCell h _ fun _ _ => hC.built _
  | framingFault cells =>
    dsimp only [exec]
    exact atHut_answers h fun _ => State.readFrame_tableMoved hC h cells
  | frameReceived cells =>
    dsimp only [exec]
    exact atHut_answers h fun _ => State.readFrame_tableMoved hC h cells
  | slotEnd =>
    dsimp only [exec]
    refine atHut_answers h fun _ => ?_
    split
    · exact h
    · dsimp only
      split
      · exact EpochTable.Moved.mapCell h _ fun _ _ => hC.damaged _
      all_goals exact h
  | transmissionComplete =>
    dsimp only [exec]
    refine atHut_answers h fun _ => ?_
    split
    · exact h
    · exact EpochTable.Moved.mapCell h _ fun c hc => hC.setState c _ hc
  | collided cell =>
    dsimp only [exec]
    refine atHut_answers h fun _ => ?_
    split
    · exact h
    · split
      · dsimp only
        have hcell := fun k => EpochTable.Moved.mapCell h k fun c (hc : C c) => hC.setState c .collided hc
        split
        · refine State.TableMoved.of_eq (State.leaveMember_tableMoved hC ?_) (State.setMember_table _ _)
          exact hcell _
        · exact hcell _
      · exact h
  | summaryOrRead =>
    dsimp only [exec]
    refine atHut_answers h fun _ => ?_
    split
    · exact h
    · exact EpochTable.Moved.mapOpen _ (fun _ hcells => hcells) h
  | summaryHuntEnd =>
    dsimp only [exec]
    refine atHut_answers h fun _ => ?_
    dsimp only
    split
    · exact EpochTable.Moved.mapOpen _ (fun _ hcells => hcells) h
    · exact h
  | rowClose =>
    refine atWork_answers h fun _ => ?_
    have hclose : ((s.reach Config.rowClose).closeRow false s.tb.timeState).TableMoved C s.table := State.closeRow_tableMoved (u := s.reach _) h _ _
    exact hclose.of_eq (by simp)
  | chainWordReceived rise asserted cells =>
    refine atHut_answers h fun _ => ?_
    split
    · split
      · split
        · exact h
        · split
          · exact State.readWord_tableMoved hC h _ _
          · exact h
      · exact State.readWord_tableMoved hC h _ _
    · exact h
  | powerOn => exact answers_next (hstart _)
  | powerLoss => exact answers_next .start
  | resetAssert => exact answers_ite (fun _ => h) fun _ => hstart _
  | resetRelease => exact answers_ite (fun _ => hstart _) fun _ => h
  | restartStart => exact atWork_answers h fun _ => by split <;> [exact hstart s; exact h]
  | startComplete x => exact answers_ite (fun _ => State.completeStart_tableMoved hC x) fun _ => h
  | _ =>
    obtain ⟨t, ht, hw⟩ := exec_unwritten _ s
    exact ⟨t, ht, h.of_eq (hw.table (by simp [commandWrites]))⟩

end Sys2Proof.Machine
end

section
/-! SUPPORT. The line, the mark unit and the membership unit as leaving MEMBER, a boundary, a close and a step make them. -/

namespace Sys2Proof.Machine

variable (s : State)

/-! ### Leaving MEMBER and ending the line's activity -/

theorem State.abortTransmission_line_eq : s.abortTransmission.line = { s.line with tx := none } := by
  unfold State.abortTransmission
  split
  next => rfl
  next h => rw [← h]

theorem State.abortTransmission_table_eq :
    s.abortTransmission.table =
      match s.line.tx with
      | some x => s.table.mapCell x.slot fun c => { c with state := .aborted }
      | none => s.table := by
  unfold State.abortTransmission
  split <;> simp [*, State.mapCell]

theorem State.leaveMember_mark_eq : s.leaveMember.mark = { s.mark with led := false, drive := .released } := by
  simp [State.leaveMember]

theorem State.leaveMember_line_eq :
    s.leaveMember.line = { ({ s.line with tx := none } : DataLine).releaseWindow s.tb.tick with collisions := 0 } := by
  simp [State.leaveMember, State.abortTransmission_line_eq]

theorem State.leaveMember_table_eq : s.leaveMember.table = s.abortTransmission.table := rfl

theorem State.endLineActivity_line_eq :
    s.endLineActivity.line = { s.line with tx := none, rx := none, summaryDriving := false, summaryRise := none } := by
  unfold State.endLineActivity
  dsimp only
  split
  · split <;> simp [State.abortTransmission_line_eq]
  · simp [State.abortTransmission_line_eq]

/-! ### An own boundary -/

theorem State.markBoundary_mark_eq (v : BoundaryView) :
    (s.markBoundary v).mark =
      if s.member.state = .halted then s.mark
      else (s.mark.rebase v.shift).boundary v.kind (s.member.leads s.mark.nextLeader) v.asserted
        (v.cause.any fun c => decide (c.1 = .fallback)) := by
  unfold State.markBoundary
  dsimp only
  split <;> simp

/-! ### A close and a step -/

/-- What a close can leave: the station as it was, the row changed alone, or the row changed and the blocks moved by it. -/
theorem State.closeRow_cases {P : State → Prop} (cut : Bool) (collected : TimeState) (hnone : s.table.openRow = none → P s)
    (hhalted : ∀ r, s.table.openRow = some r → s.member.state = .halted →
      P (s.setTable (s.table.mapOpen fun _ => { r with isOpen := false, cut := cut })))
    (hopen : ∀ r, s.table.openRow = some r → s.member.state ≠ .halted →
      P ((s.setTable (s.table.mapOpen fun _ => { r with isOpen := false, cut := cut })).closeBlocks cut collected
        { r with isOpen := false, cut := cut })) : P (s.closeRow cut collected) := by
  cases hr : s.table.openRow with
  | none => rw [State.closeRow_of_none _ _ _ hr]; exact hnone hr
  | some r =>
    by_cases hh : s.member.state = .halted
    · rw [State.closeRow_of_halted _ _ _ _ hr hh]; exact hhalted r hr hh
    · rw [State.closeRow_of_open _ _ _ _ hr hh]; exact hopen r hr hh

section

variable (kind : BoundaryKind) (cause : Option (MarkKind × Int)) (collected : TimeState) (shift : Int) (tick : Nat) (temp : Int) (others : Bool)

/-- The station at a step before its row is cut. -/
def State.beforeCut : State :=
  (((s.endLineActivity.releaseMark others).raise .timeStep).setTb (s.tb.boundary s.retention.drift kind tick temp))

theorem State.cutAtStep_eq : s.cutAtStep kind collected tick temp others = (s.beforeCut kind tick temp others).closeRow true collected := by
  simp [State.cutAtStep, State.beforeCut]

@[simp] theorem State.beforeCut_member : (s.beforeCut kind tick temp others).member = s.member := by simp [State.beforeCut]
@[simp] theorem State.beforeCut_retention : (s.beforeCut kind tick temp others).retention = s.retention := by simp [State.beforeCut]
@[simp] theorem State.beforeCut_setup : (s.beforeCut kind tick temp others).setup = s.setup := by simp [State.beforeCut]
@[simp] theorem State.beforeCut_archive : (s.beforeCut kind tick temp others).archive = s.archive := by simp [State.beforeCut]
@[simp] theorem State.beforeCut_tb :
    (s.beforeCut kind tick temp others).tb = s.tb.boundary s.retention.drift kind tick temp := rfl
@[simp] theorem State.beforeCut_line : (s.beforeCut kind tick temp others).line = s.endLineActivity.line := rfl
@[simp] theorem State.beforeCut_table : (s.beforeCut kind tick temp others).table = s.endLineActivity.table := rfl
@[simp] theorem State.beforeCut_pins :
    (s.beforeCut kind tick temp others).pins = { s.pins with markAsserted := s.assertedByOthers others } := by
  simp [State.beforeCut, State.releaseMark, State.assertedByOthers]
@[simp] theorem State.beforeCut_mark : (s.beforeCut kind tick temp others).mark = { s.mark with drive := .released } := by
  simp [State.beforeCut, State.releaseMark]

theorem State.cutAtStep_line : (s.cutAtStep kind collected tick temp others).line =
    { s.line with tx := none, rx := none, summaryDriving := false, summaryRise := none } := by
  rw [State.cutAtStep_eq, State.closeRow_line, State.beforeCut_line, State.endLineActivity_line_eq]

theorem State.cutAtStep_pins : (s.cutAtStep kind collected tick temp others).pins =
    { s.pins with markAsserted := s.assertedByOthers others } := by
  rw [State.cutAtStep_eq, State.closeRow_pins, State.beforeCut_pins]

theorem State.stepTo_line_eq : (s.stepTo kind cause collected shift tick temp others).line =
    { s.line with tx := none, rx := none, summaryDriving := false, summaryDriveEnd := 0, summaryRise := none, summaryStored := false } := by
  rw [State.stepTo_eq, State.blocksAtBoundary_line_eq, State.cutAtStep_line]

end

end Sys2Proof.Machine
end

section
/-! SUPPORT. The timebase's invariant (R2, R3, R8, R9, R17, R21, R22, R24): every move of the timebase, every lesson of a drift bin and every
report that a cell takes stays in range. -/

namespace Sys2Proof.Machine

theorem countUp_le (limit n : Nat) : countUp limit n ≤ limit := by
  rw [countUp_eq]
  exact Nat.min_le_right _ _

/-! ### The moves of the timebase -/

/-- A change of time state clears what a miss has just counted. -/
theorem Timebase.enter_miss {tb : Timebase} {ts : TimeState} (h : tb.timeState ≠ ts) : tb.miss.enter ts = tb.enter ts := by
  unfold Timebase.enter
  rw [if_neg h, if_neg (show tb.miss.timeState ≠ ts from h)]
  rfl

theorem Timebase.enterAcquire_miss {tb : Timebase} {ts : TimeState} (h : tb.timeState ≠ ts) (taken : Bool) :
    tb.miss.enterAcquire ts taken = tb.enterAcquire ts taken := by
  unfold Timebase.enterAcquire
  rw [Timebase.enter_miss h]

theorem driftLookup_range (drift : Vector DriftBin 16) (temp : Int) {f : Int} (h : -10000 ≤ f ∧ f ≤ 10000) :
    -10000 ≤ driftLookup drift temp f ∧ driftLookup drift temp f ≤ 10000 := by
  unfold driftLookup
  split
  · rw [clampCorrection_eq]
    omega
  · exact h

namespace Timebase.Sound

variable {tb : Timebase} (h : tb.Sound)

include h

theorem reach (tick : Nat) : (tb.reach tick).Sound := { h with }

/-- The whole part of `f` and carry is at most 100 ticks, and the carry kept is less than 100. -/
theorem fixLength : tb.fixLength.Sound := by
  obtain ⟨hf, hp, hc⟩ := And.intro h.correction (And.intro h.phaseTerm h.carry)
  have hmod := Int.mul_tdiv_add_tmod (tb.f + tb.carry) 100
  have hlt := Int.tmod_lt_of_pos (tb.f + tb.carry) (b := 100) (by decide)
  have hgt : -100 < (tb.f + tb.carry).tmod 100 := by
    have := Int.lt_tmod_of_pos (tb.f + tb.carry) (b := 100) (by decide)
    omega
  have hcarry : -99 ≤ tb.fixLength.carry ∧ tb.fixLength.carry ≤ 99 := by
    simp only [Timebase.fixLength]
    omega
  have hlength : 9994900 ≤ tb.fixLength.epochLength ∧ tb.fixLength.epochLength ≤ 10005100 := by
    have hsum : -10099 ≤ tb.f + tb.carry ∧ tb.f + tb.carry ≤ 10099 := by omega
    have hlo : -100 ≤ (tb.f + tb.carry).tdiv 100 := Int.tdiv_le_tdiv (by decide) hsum.1
    have hhi : (tb.f + tb.carry).tdiv 100 ≤ 100 := Int.tdiv_le_tdiv (by decide) hsum.2
    simp only [Timebase.fixLength, Config.nominalEpoch]
    omega
  exact { h with carry := hcarry, length := hlength, phaseTerm := by simp [Timebase.fixLength] }

/-- Entry into a state that does not acquire. -/
theorem enter {ts : TimeState} (hts : ts ≠ .refAcquire ∧ ts ≠ .followAcquire) : (tb.enter ts).Sound := by
  unfold Timebase.enter
  split
  · exact h
  · refine { h with misses := Nat.zero_le _, settle := Nat.zero_le _, age := ?_, acquire := fun hacquire => ?_ }
    · dsimp only
      split
      · exact Nat.zero_le _
      · exact h.age
    · rcases hacquire with ha | ha
      · exact absurd ha hts.1
      · exact absurd ha hts.2

theorem enterAcquire (ts : TimeState) (taken : Bool) : (tb.enterAcquire ts taken).Sound := by
  unfold Timebase.enterAcquire Timebase.enter
  split
  · exact { h with acquire := fun _ => Nat.zero_le _ }
  · refine { h with misses := Nat.zero_le _, settle := Nat.zero_le _, age := ?_, acquire := fun _ => Nat.zero_le _ }
    dsimp only
    split
    · exact Nat.zero_le _
    · exact h.age

theorem steer {phase : Int} (hphase : -20000 ≤ phase ∧ phase ≤ 20000) : (tb.steer phase).Sound := by
  refine { h with correction := ?_, phaseTerm := ?_ }
  · simp only [Timebase.steer, clampCorrection_eq]
    omega
  · exact ⟨Int.tdiv_le_tdiv (by decide) hphase.1, Int.tdiv_le_tdiv (by decide) hphase.2⟩

theorem steerPlain {phase : Int} (hphase : -20000 ≤ phase ∧ phase ≤ 20000) : (tb.steerPlain phase).Sound :=
  { h.steer hphase with settle := Nat.zero_le _ }

theorem clearMisses : ({ tb with missCount := 0 } : Timebase).Sound := { h with misses := Nat.zero_le _ }

/-- The acquire count, raised or at 0, before the entry that four in a row make. -/
theorem acquired {ts : TimeState} (hts : ts ≠ .refAcquire ∧ ts ≠ .followAcquire) :
    (if 4 ≤ tb.acquireCount + 1 then ({ tb with acquireCount := tb.acquireCount + 1 } : Timebase).enter ts
      else { tb with acquireCount := tb.acquireCount + 1 }).Sound := by
  split
  · by_cases hsame : tb.timeState = ts
    · have : ({ tb with acquireCount := tb.acquireCount + 1 } : Timebase).Sound :=
        { h with acquire := fun ha => (ha.elim (fun e => hts.1 (hsame ▸ e)) fun e => hts.2 (hsame ▸ e)).elim }
      exact this.enter hts
    · unfold Timebase.enter
      rw [if_neg hsame]
      refine { h with misses := Nat.zero_le _, settle := Nat.zero_le _, age := ?_, acquire := fun ha => ?_ }
      · dsimp only
        split
        · exact Nat.zero_le _
        · exact h.age
      · exact (ha.elim (fun e => hts.1 e) fun e => hts.2 e).elim
  next hlt => exact { h with acquire := fun _ => by dsimp only; omega }

theorem clearAcquire : ({ tb with acquireCount := 0 } : Timebase).Sound := { h with acquire := fun _ => Nat.zero_le _ }

theorem miss (hroom : tb.missCount < 3) : tb.miss.Sound := { h with misses := hroom, settle := Nat.zero_le _ }

/-- Two misses may be counted, and the third is the loss. -/
theorem miss_markLoss (hts : tb.timeState ≠ .holdover) : tb.miss.markLoss.Sound := by
  unfold Timebase.markLoss
  split
  next hlt => exact h.miss (Nat.lt_of_succ_lt hlt)
  next =>
    rw [Timebase.enter_miss hts]
    exact h.enter (by decide)

theorem miss_referenceLoss (hts : tb.timeState = .refAcquire ∨ tb.timeState = .locked) (follows : Bool) :
    (tb.miss.referenceLoss follows).Sound := by
  have hne {ts : TimeState} (h : ts ≠ .refAcquire ∧ ts ≠ .locked) : tb.timeState ≠ ts := by
    rintro rfl
    exact hts.elim h.1 h.2
  unfold Timebase.referenceLoss
  split
  next hlt => exact h.miss (Nat.lt_of_succ_lt hlt)
  next =>
    split
    · rw [Timebase.enter_miss (hne (by decide))]
      exact h.enter (by decide)
    · split
      · rw [Timebase.enter_miss (hne (by decide))]
        exact h.enter (by decide)
      · rw [Timebase.enterAcquire_miss (hne (by decide))]
        exact h.enterAcquire _ _

theorem windowEnd (follows : Bool) : (tb.windowEnd follows).Sound := by
  unfold Timebase.windowEnd
  split
  · exact h
  · split
    next hts => exact miss_referenceLoss h.clearAcquire (.inl hts) follows
    next hts => exact h.miss_referenceLoss (.inr hts) follows
    all_goals exact h

theorem markAbsent (disciplines : Bool) : (tb.markAbsent disciplines).Sound := by
  have hphase : ({ tb with lastMarkPhase := none } : Timebase).Sound := { h with }
  unfold Timebase.markAbsent
  dsimp only
  split
  · exact hphase
  · split
    next hts => exact miss_markLoss hphase.clearAcquire (by simp [hts])
    next hts => exact hphase.miss_markLoss (by simp [hts])
    all_goals exact hphase

theorem boundary {drift : Vector DriftBin 16} (kind : BoundaryKind) (tick : Nat) (oscTemp : Int) :
    (tb.boundary drift kind tick oscTemp).Sound := by
  refine Timebase.Sound.fixLength { h with correction := ?_, phaseTerm := ?_, epochs := countUp_le _ _, settle := ?_ }
  · dsimp only
    split
    · exact driftLookup_range _ _ h.correction
    · exact h.correction
  · dsimp only
    split
    · decide
    · exact h.phaseTerm
  · dsimp only
    split
    · exact Nat.zero_le _
    · exact h.settle

theorem applyLabel (phase : Int) : (tb.applyLabel phase).tb.Sound := by
  unfold Timebase.applyLabel
  split
  · exact h
  · split <;> exact { h with }

theorem relabel (cut : Bool) (epoch : EpochNumber) : (tb.relabel cut epoch).tb.Sound := by
  unfold Timebase.relabel
  split
  · split
    · exact h
    · exact { h with }
  · split
    · exact h
    · exact { h with }

theorem lead (leads : Bool) : (tb.lead leads).Sound := by
  unfold Timebase.lead
  split
  · split
    any_goals exact h.enter (by decide)
    all_goals exact h
  · exact h

theorem close (cut : Bool) (collected : TimeState) {leaders : Option Report}
    (hleaders : ∀ r, leaders = some r → r.sourceAge ≤ maxCount32) (rowEpoch : EpochNumber) (leads : Bool) :
    (tb.close cut collected leaders rowEpoch leads).tb.Sound := by
  have hage : ({ tb with sourceAge := ageAfterClose collected tb.sourceAge leaders, leaderRank := leaders.map Report.rank } :
      Timebase).Sound := by
    refine { h with age := ?_ }
    dsimp only [ageAfterClose]
    split
    · exact Nat.zero_le _
    · split
      next r => exact hleaders r rfl
      next => exact countUp_le _ _
    any_goals exact countUp_le _ _
    exact Nat.le_refl _
  unfold Timebase.close
  dsimp only
  split
  · split
    · exact hage.lead leads
    · exact (hage.relabel cut _).lead leads
  · exact hage.lead leads

end Timebase.Sound

theorem Timebase.afterStart_sound {f : Int} (h : -10000 ≤ f ∧ f ≤ 10000) (oscTemp : Int) : (Timebase.afterStart f oscTemp).Sound := by
  refine ⟨h, ?_, ?_, ?_, ?_, ?_, ?_, ?_, ?_⟩ <;> simp [Timebase.afterStart, maxCount32, Config.nominalEpoch]

/-! ### Edges and lessons -/

theorem DriftBin.Sound.learn {b : DriftBin} (h : b.Sound) {x : Int} (hx : -1000000 ≤ x ∧ x ≤ 1000000) : (b.learn x).Sound := by
  refine ⟨?_, countUp_le _ _, fun h0 => ?_⟩
  · have hmem {n : Int} (hn : 1 ≤ n) := interpolate_mem h.estimate hx (x := 1) (d := n) (by decide) hn (by omega)
    simp only [Int.mul_one] at hmem
    unfold DriftBin.learn
    dsimp only
    split <;> exact hmem (by omega)
  · simp [DriftBin.learn, countUp_eq] at h0

/-- The timebase and the drift table that an edge gives are in range. -/
def EdgeOutcome.Sound (o : EdgeOutcome) : Prop := o.tb.Sound ∧ ∀ i : Fin 16, o.drift[i].Sound

section

variable {tb : Timebase} {drift : Vector DriftBin 16} (h : tb.Sound) (hd : ∀ i : Fin 16, drift[i].Sound)

include h hd

theorem qualify_sound : (qualify tb drift).Sound := by
  unfold qualify
  split
  next hlt => exact ⟨{ h with settle := hlt }, hd⟩
  next =>
    refine ⟨h, ?_⟩
    have hf := h.correction
    exact setAt_forall (p := DriftBin.Sound) ((hd _).learn (by omega)) hd

theorem referenceEdgeOutcome_sound (phase : Int) : (referenceEdgeOutcome tb drift (inReferenceWindow phase) phase).Sound := by
  have hin (hinside : inReferenceWindow phase = true) : -20000 ≤ phase ∧ phase ≤ 20000 := by
    obtain ⟨hlo, hhi⟩ := (inReferenceWindow_iff phase).mp hinside
    omega
  unfold referenceEdgeOutcome
  split
  iterate 4 exact ⟨h.enterAcquire _ _, hd⟩
  · split
    · exact ⟨h.clearAcquire, hd⟩
    next hinside =>
      have hsteered := (h.steerPlain (hin (by simpa using hinside))).clearMisses
      dsimp only
      split
      · exact ⟨hsteered.acquired (by decide), hd⟩
      · exact ⟨hsteered.clearAcquire, hd⟩
  · split
    next hinside => exact qualify_sound (h.steer (hin hinside)).clearMisses hd
    next => exact ⟨h, hd⟩

theorem followSteer_sound {phase : Int} (hphase : -20000 ≤ phase ∧ phase ≤ 20000) (taken : Bool) :
    (followSteer tb drift taken phase).Sound := by
  unfold followSteer
  split
  · exact qualify_sound (h.steer hphase) hd
  · exact ⟨h.steerPlain hphase, hd⟩

theorem markEdgeOutcome_sound (taken : Bool) (phase : Int) : (markEdgeOutcome tb drift taken phase).Sound := by
  unfold markEdgeOutcome
  split
  · exact ⟨h.enterAcquire _ _, hd⟩
  · exact ⟨h, hd⟩
  · exact ⟨h, hd⟩
  · split
    · exact ⟨{ h.clearMisses with }, hd⟩
    · split
      · exact ⟨{ h.clearMisses.clearAcquire with }, hd⟩
      next hnear =>
        have hphase : -20000 ≤ phase ∧ phase ≤ 20000 := (phaseWithin_iff _ _).mp (by simpa using hnear)
        have hsteered : ({ tb.steerPlain phase with missCount := if taken then 0 else tb.missCount } : Timebase).Sound := by
          refine { h.steerPlain hphase with misses := ?_ }
          dsimp only
          split
          · exact Nat.zero_le _
          · exact h.misses
        dsimp only
        split
        · exact ⟨hsteered.acquired (by decide), hd⟩
        · exact ⟨hsteered.clearAcquire, hd⟩
  next hts =>
    split
    next hnear =>
      have hphase := (phaseWithin_iff _ _).mp (Bool.and_eq_true_iff.mp hnear).2
      exact followSteer_sound h.clearMisses hd hphase taken
    next => exact ⟨h.miss_markLoss (by simp [hts]), hd⟩
  · split
    next hnear =>
      have hphase := (phaseWithin_iff _ _).mp hnear
      exact followSteer_sound (h.enter (by decide)) hd (by omega) taken
    next => exact ⟨h.enterAcquire _ _, hd⟩

theorem handMark_sound (disciplines taken : Bool) (phase : Int) : (handMark tb drift disciplines taken phase).Sound := by
  have htb : (if taken then { tb with lastMarkPhase := some phase } else tb : Timebase).Sound := by
    split
    · exact { h with }
    · exact h
  unfold handMark
  dsimp only
  split
  · exact markEdgeOutcome_sound htb hd taken phase
  · exact ⟨htb, hd⟩

end

end Sys2Proof.Machine
end

section
/-! SUPPORT. The station's time invariant (`TimeSound`) through every command. -/

namespace Sys2Proof.Machine

/-- A cell's report, if it has one, carries a source age in range. -/
def Cell.AgeInRange (c : Cell) : Prop := ∀ x, c.report = some x → x.sourceAge ≤ maxCount32

theorem EpochTable.agesSound_iff (t : EpochTable) : t.AgesSound ↔ ∀ r ∈ t.rows, r.CellsMeet Cell.AgeInRange := Iff.rfl

/-- The source age that a body carries is a field of four bytes. -/
theorem leNat_lt (bytes : List Byte) : leNat bytes < 256 ^ bytes.length := by
  induction bytes with
  | nil => decide
  | cons b rest ih =>
    have hb := b.isLt
    simp only [leNat, List.foldr_cons, List.length_cons, Nat.pow_succ] at ih ⊢
    omega

theorem decodeReport_sourceAge {body : List Byte} {r : Report} (h : decodeReport body = some r) : r.sourceAge ≤ maxCount32 := by
  have hage : leNat ((body.drop 7).take 4) ≤ maxCount32 := by
    have hlt := leNat_lt ((body.drop 7).take 4)
    have hlen : ((body.drop 7).take 4).length ≤ 4 := by simp
    have hpow : 256 ^ ((body.drop 7).take 4).length ≤ 256 ^ 4 := Nat.pow_le_pow_right (by decide) hlen
    simp only [maxCount32]
    omega
  unfold decodeReport at h
  grind

theorem judgeWhole_sourceAge {slot : Station} {len : Byte} {tail : List Byte} {r : Report} (h : judgeWhole slot len tail = .received r) :
    r.sourceAge ≤ maxCount32 := by
  unfold judgeWhole at h
  dsimp only at h
  split at h
  · cases h
  · split at h
    · cases h
    · split at h <;> cases h
      next hdecode => exact decodeReport_sourceAge hdecode

theorem Judgement.cell_ageInRange {j : Judgement} (h : ∀ r, j = .received r → r.sourceAge ≤ maxCount32) : j.cell.AgeInRange := by
  intro x hx
  cases j with
  | received r => exact h x (by cases hx; rfl)
  | damaged k => cases hx

theorem Reception.judged_ageInRange (x : Reception) : x.judged.cell.AgeInRange := by
  refine Judgement.cell_ageInRange fun r hr => ?_
  unfold Reception.judged at hr
  split at hr
  · exact judgeWhole_sourceAge hr
  · cases hr

section

variable {s t : State}

theorem State.TimeSound.writesCells (h : s.TimeSound) : s.WritesCells Cell.AgeInRange where
  empty x hx := by cases hx
  damaged kind x hx := by cases hx
  setState c st hc := hc
  judged x := x.judged_ageInRange
  built k x hx := by
    obtain rfl := Option.some.inj hx
    exact h.timebase.age

theorem State.TimeSound.of_eq (h : s.TimeSound) (htb : t.tb = s.tb) (hdrift : t.retention.drift = s.retention.drift)
    (htable : t.table = s.table) : t.TimeSound := by
  obtain ⟨h1, h2, h3⟩ := h
  constructor
  · rwa [htb]
  · rwa [hdrift]
  · rwa [htable]

/-- A new timebase in range. -/
theorem State.TimeSound.setTb (h : s.TimeSound) {tb : Timebase} (htb : tb.Sound) : (s.setTb tb).TimeSound := ⟨htb, h.drift, h.ages⟩

theorem State.TimeSound.reach (h : s.TimeSound) (tick : Nat) : (s.reach tick).TimeSound := h.setTb (h.timebase.reach tick)

theorem State.TimeSound.takeEdge (h : s.TimeSound) {o : EdgeOutcome} (ho : o.Sound) : (s.takeEdge o).TimeSound :=
  ⟨ho.1, ho.2, h.ages⟩

/-- A change of the table that writes no report of its own. -/
theorem State.TimeSound.of_tableMoved (h : s.TimeSound) (htb : t.tb.Sound) (hdrift : t.retention.drift = s.retention.drift)
    (htable : t.TableMoved Cell.AgeInRange s.table) : t.TimeSound :=
  ⟨htb, by rw [hdrift]; exact h.drift, htable.cells h.ages⟩

theorem Row.leadersReport_ageInRange {r : Row} (h : r.CellsMeet Cell.AgeInRange) (own : Option Station) (x : Report)
    (hx : r.leadersReport own = some x) : x.sourceAge ≤ maxCount32 := by
  unfold Row.leadersReport Row.reportOf Cell.reportIn at hx
  split at hx
  next k _ =>
    split at hx
    · cases hx
    · split at hx
      · exact h k x hx
      · cases hx
  next => cases hx

theorem State.TimeSound.closeRow (h : s.TimeSound) (cut : Bool) (collected : TimeState) : (s.closeRow cut collected).TimeSound := by
  have hmoved : (s.closeRow cut collected).TableMoved Cell.AgeInRange s.table := State.closeRow_tableMoved .refl cut collected
  refine h.of_tableMoved ?_ ?_ hmoved
  · refine State.closeRow_cases (P := fun u => u.tb.Sound) s _ _ (fun _ => h.timebase) (fun _ _ _ => h.timebase) fun r hr _ => ?_
    rw [State.closeBlocks_tb_eq]
    refine h.timebase.close _ _ (Row.leadersReport_ageInRange ?_ _) _ _
    obtain ⟨-, hrows⟩ := EpochTable.openRow_isOpen _ _ hr
    exact h.ages r (by rw [hrows]; exact List.mem_cons_self ..)
  · refine State.closeRow_cases (P := fun u => u.retention.drift = s.retention.drift) s _ _ (fun _ => rfl) (fun _ _ _ => rfl) fun r _ _ => ?_
    rw [State.closeBlocks_retention_eq]
    split <;> rfl

theorem State.TimeSound.blocksAtBoundary (h : s.TimeSound) (v : BoundaryView) (b : Bool) : (s.blocksAtBoundary v b).TimeSound :=
  h.of_tableMoved (by simpa using h.timebase) (by simp) (State.blocksAtBoundary_tableMoved h.writesCells .refl v b)

theorem State.TimeSound.stepTo (h : s.TimeSound) (kind : BoundaryKind) (cause : Option (MarkKind × Int)) (collected : TimeState)
    (shift : Int) (tick : Nat) (temp : Int) (others : Bool) : (s.stepTo kind cause collected shift tick temp others).TimeSound := by
  rw [State.stepTo_eq, State.cutAtStep_eq]
  have hbefore : (s.beforeCut kind tick temp others).TimeSound := by
    refine h.of_tableMoved ?_ (by simp) ?_
    · exact h.timebase.boundary kind tick temp
    · exact (State.endLineActivity_tableMoved h.writesCells .refl).of_eq rfl
  exact (hbefore.closeRow true collected).blocksAtBoundary _ _

theorem State.TimeSound.labelEdge (h : s.TimeSound) (phase : Int) : (s.labelEdge phase).TimeSound := by
  refine h.of_tableMoved ?_ (by simp) ((State.tableMoved_keptAtEdges h.writesCells).labelEdge s phase .refl)
  unfold State.labelEdge
  dsimp only
  split <;> exact h.timebase.applyLabel phase

theorem State.TimeSound.recordPulse (h : s.TimeSound) (kind : MarkKind) (rise attributed phase : Int) (taken : Bool) :
    (s.recordPulse kind rise attributed phase taken).TimeSound :=
  h.of_tableMoved (by simpa using h.timebase) (by simp)
    ((State.tableMoved_keptAtEdges h.writesCells).recordPulse s kind rise attributed phase taken .refl)

theorem State.TimeSound.referenceEdge (h : s.TimeSound) (tick : Nat) (phase temp : Int) (others : Bool) :
    (s.referenceEdge tick phase (inReferenceWindow phase) temp others).TimeSound := by
  unfold State.referenceEdge
  extract_lets tb o s'
  have htb : tb.Sound := by
    unfold tb
    split
    · rw [Timebase.takeWindow_eq]
      exact { h.timebase with }
    · exact h.timebase
  have hs' : s'.TimeSound := h.takeEdge (referenceEdgeOutcome_sound htb h.drift phase)
  split
  · exact hs'.stepTo ..
  · split
    · exact hs'.labelEdge _
    · exact hs'

theorem State.TimeSound.classify (h : s.TimeSound) (kind : MarkKind) (rise attributed : Int) (tick : Nat) (temp : Int) (others : Bool) :
    (s.classify kind rise attributed tick temp others).TimeSound := by
  unfold State.classify
  extract_lets phase taken o s'
  have hs' : s'.TimeSound := h.takeEdge (handMark_sound h.timebase h.drift _ _ _)
  split
  · exact hs'.stepTo ..
  · exact hs'.recordPulse ..

theorem State.beginStart_timeSound (h : s.TimeSound) (u : State) (hu : u.retention = s.retention) : u.beginStart.TimeSound := by
  refine ⟨?_, ?_, ?_⟩
  · rw [State.beginStart_tb]
    exact Timebase.afterStart_sound (by decide) 0
  · rw [State.beginStart_retention, hu]
    exact h.drift
  · rw [State.beginStart_table]
    exact fun r hr => by cases hr

theorem State.completeStart_timeSound (h : s.TimeSound) (x : StartSamples) : (s.completeStart x).TimeSound := by
  have hvalues : (s.startValues x).TimeSound :=
    ⟨Timebase.afterStart_sound (driftLookup_range _ _ (by decide)) _, h.drift, fun r hr => by cases hr⟩
  have hraised : ((s.startValues x).raiseIf (s.startValues x).setupFaultHolds .setupFault).TimeSound :=
    hvalues.of_eq (by simp) (by simp) (by simp)
  have hfirst : ((s.startValues x).raiseIf (s.startValues x).setupFaultHolds .setupFault).firstBoundary.TimeSound :=
    (hraised.setTb hraised.timebase.fixLength).blocksAtBoundary _ _
  unfold State.completeStart
  exact hfirst.of_eq (by simp) (by simp) (by simp)

end

/-! ### Every command -/

/-- The timebase and the drift table in range. -/
def State.ClockSound (s : State) : Prop := s.tb.Sound ∧ ∀ i : Fin 16, s.retention.drift[i].Sound

section

variable {s t : State}

theorem State.ClockSound.of_eq (h : s.ClockSound) (htb : t.tb = s.tb) (hdrift : t.retention.drift = s.retention.drift) :
    t.ClockSound := by
  obtain ⟨h1, h2⟩ := h
  constructor
  · rwa [htb]
  · rwa [hdrift]

/-- Only the tick count of the timebase moves. -/
theorem State.ClockSound.ticked (h : s.ClockSound) (htb : t.tb = { s.tb with tick := t.tb.tick })
    (hdrift : t.retention.drift = s.retention.drift) : t.ClockSound := by
  obtain ⟨h1, h2⟩ := h
  constructor
  · rw [htb]
    exact { h1 with }
  · rwa [hdrift]

theorem State.TimeSound.clock (h : s.TimeSound) : s.ClockSound := ⟨h.timebase, h.drift⟩

/-- No archive command writes the drift table. -/
theorem State.writeStart_drift (s : State) : s.writeStart.retention.drift = s.retention.drift := by
  unfold State.writeStart
  split
  · split
    · rfl
    · split
      · rfl
      · split <;> rfl
  · rfl

theorem State.writeComplete_drift (s : State) : s.writeComplete.retention.drift = s.retention.drift := by
  unfold State.writeComplete
  split
  · dsimp only
    split <;> rfl
  · rfl

theorem State.converted_drift (s : State) (i : Channel) (o : ConversionOutcome) :
    (s.converted i o).retention.drift = s.retention.drift := by
  unfold State.converted
  dsimp only
  split <;> split <;> simp [Retention.keepBias]

theorem State.readWord_tb_eq (s : State) (rise : Int) (cells : List Bool) :
    (s.readWord rise cells).tb = { s.tb with tick := (s.readWord rise cells).tb.tick } := by
  unfold State.readWord
  dsimp only
  split <;> simp [Timebase.reach]

theorem State.readFrame_tb_eq (s : State) (levels : List Bool) :
    (s.readFrame levels).tb = { s.tb with tick := (s.readFrame levels).tb.tick } := by
  unfold State.readFrame
  split
  · rfl
  · split
    · split <;> simp [State.atCell, Timebase.reach]
    · rfl

end

theorem exec_clockSound (c : Instr) (s : State) (h : s.TimeSound) : Answers State.ClockSound (exec c s) := by
  have hs : s.ClockSound := h.clock
  have hstart (u : State) (hu : u.retention = s.retention) : u.beginStart.ClockSound := (State.beginStart_timeSound h u hu).clock
  cases c with
  | ownBoundary temp =>
    refine atWork_answers hs fun _ => ?_
    have hb : (s.countedBoundary temp).TimeSound := (h.setTb (h.timebase.boundary _ _ _)).blocksAtBoundary _ _
    exact hb.clock.of_eq (by simp) (by simp)
  | referenceEdge =>
    obtain ⟨t, ht, h'⟩ := exec_referenceEdge_answers (P := State.TimeSound) (fun _ _ h => h.of_eq rfl rfl rfl) (fun _ n h => h.reach n)
      (fun _ _ _ _ _ h => h.referenceEdge _ _ _ _) h ..
    exact ⟨t, ht, h'.clock⟩
  | leaderPulse =>
    obtain ⟨t, ht, h'⟩ := exec_leaderPulse_answers (P := State.TimeSound) (fun _ _ h => h.of_eq rfl rfl rfl) (fun _ n h => h.reach n)
      (fun _ _ h => h.of_eq rfl rfl rfl) (fun _ _ h => h.of_eq rfl rfl rfl) (fun _ _ _ _ _ _ _ h => h.classify ..) h ..
    exact ⟨t, ht, h'.clock⟩
  | fallbackPulse =>
    obtain ⟨t, ht, h'⟩ := exec_fallbackPulse_answers (P := State.TimeSound) (fun _ _ h => h.of_eq rfl rfl rfl) (fun _ n h => h.reach n)
      (fun _ _ h => h.of_eq rfl rfl rfl) (fun _ _ _ _ _ _ _ h => h.classify ..) h ..
    exact ⟨t, ht, h'.clock⟩
  | referenceWindowEnd =>
    refine atWork_answers hs fun _ => ?_
    split
    · exact ⟨(h.timebase.reach _).windowEnd _, h.drift⟩
    · exact hs
  | rowClose =>
    refine atWork_answers hs fun _ => ?_
    have hclose : ((s.reach Config.rowClose).closeRow false s.tb.timeState).TimeSound := (h.reach _).closeRow _ _
    exact hclose.clock.of_eq (by simp) (by simp)
  | markAbsent =>
    dsimp only [exec]
    refine atHut_answers hs fun _ => ?_
    dsimp only
    split
    · exact ⟨(h.timebase.reach _).markAbsent _, h.drift⟩
    · exact (h.reach _).clock
  | markRise tick =>
    refine answers_next ?_
    dsimp only
    repeat' split
    all_goals exact hs.ticked rfl rfl
  | conversion i k raw =>
    dsimp only [exec]
    refine atWork_answers hs fun _ => ?_
    dsimp only
    split
    · exact hs.ticked (by simp [Timebase.reach]) (by simp [State.converted_drift])
    · exact hs.ticked rfl rfl
  | setLabel bits =>
    dsimp only [exec]
    refine execute_answers hs (fun _ => hs) fun _ _ => ?_
    split
    · exact ⟨{ h.timebase with }, h.drift⟩
    · exact hs
  | clearDriftTable =>
    dsimp only [exec]
    refine execute_answers hs (fun _ => hs) fun _ _ => ⟨h.timebase, fun i => ?_⟩
    simp only [State.result_retention, State.setRetention_retention, Fin.getElem_fin, Vector.getElem_replicate]
    exact ⟨by decide, by decide, fun _ => rfl⟩
  | release bits =>
    dsimp only [exec]
    refine execute_answers hs (fun _ => hs) fun _ _ => ?_
    dsimp only
    repeat' split
    all_goals exact hs
  | archiveWriteStart => exact atWork_answers hs fun _ => hs.of_eq (by simp) s.writeStart_drift
  | archiveWriteComplete => exact atWork_answers hs fun _ => hs.of_eq (by simp) s.writeComplete_drift
  | framingFault cells =>
    dsimp only [exec]
    exact atHut_answers hs fun _ => hs.ticked (s.readFrame_tb_eq cells) (by simp)
  | frameReceived cells =>
    dsimp only [exec]
    exact atHut_answers hs fun _ => hs.ticked (s.readFrame_tb_eq cells) (by simp)
  | slotStart | summaryWindowEnd | ownSlotStart | huntTimeout | transmissionComplete | summaryOrRead
  | chainWordEnd | summaryWindow =>
    dsimp only [exec]
    refine atHut_answers hs fun _ => ?_
    repeat' split
    all_goals exact hs.ticked (by simp [Timebase.reach]) (by simp)
  | chainWordReceived rise asserted cells =>
    have hword (start : Int) (cells : List Bool) : (s.readWord start cells).ClockSound := hs.ticked (s.readWord_tb_eq _ _) (by simp)
    refine atHut_answers hs fun _ => ?_
    split
    · split
      · split
        · exact hs
        · split
          · exact hword _ _
          · exact hs.ticked rfl rfl
      · exact hword _ _
    · exact hs
  | summaryHuntEnd | leaderMarkEnd | fallbackMark
  | fallbackMarkEnd | chainWordSend | frameFirstRise | slotEnd | collided | summaryWindowRise =>
    dsimp only [exec]
    refine atHut_answers hs fun _ => ?_
    dsimp only
    repeat' split
    all_goals exact hs.ticked (by simp [Timebase.reach]) (by simp)
  | powerOn => exact answers_next (hstart _ rfl)
  | powerLoss => exact answers_next ⟨Timebase.afterStart_sound (by decide) 0, h.drift⟩
  | resetAssert => exact answers_ite (fun _ => hs) fun _ => hstart _ rfl
  | resetRelease => exact answers_ite (fun _ => hstart _ rfl) fun _ => hs
  | restartStart => exact atWork_answers hs fun _ => by split <;> [exact hstart s rfl; exact hs]
  | startComplete x => exact answers_ite (fun _ => (State.completeStart_timeSound h x).clock) fun _ => hs
  | _ =>
    obtain ⟨t, ht, hw⟩ := exec_unwritten _ s
    exact ⟨t, ht, hs.of_eq (hw.tb (by simp [commandWrites])) (congrArg _ (hw.retention (by simp [commandWrites])))⟩

theorem exec_timeSound (c : Instr) (s : State) (h : s.TimeSound) : Answers State.TimeSound (exec c s) := by
  obtain ⟨t, ht, hmoved⟩ := exec_tableMoved c s h.writesCells
  obtain ⟨htb, hdrift⟩ := (exec_clockSound c s h).of_eq ht
  exact ⟨t, ht, htb, hdrift, hmoved.cells h.ages⟩

/-- Settles O55: every command leaves the timebase and the drift table in range, and writes only reports whose source age is. -/
theorem stepKeepsTimeSound : Obligations.StepKeepsTimeSound := fun _ _ h ht =>
  step_keeps (fun _ _ h => h.of_eq rfl rfl rfl) exec_timeSound h ht

end Sys2Proof.Machine
end

section
/-! SUPPORT. Who marks, reports and drives the summary window, and who holds a number, through every command (R30, R42, R47, R59, section 4.3). -/

namespace Sys2Proof.Machine

/-! ### The membership unit -/

section

variable (m : Member)

@[simp] theorem Member.boundary_state (chained : Bool) (shift : Int) : (m.boundary chained shift).state = m.state := rfl
@[simp] theorem Member.boundary_number (chained : Bool) (shift : Int) : (m.boundary chained shift).number = m.number := rfl

@[simp] theorem Member.countJoin_number (kind : MarkKind) : (m.countJoin kind).number = m.number := by
  unfold Member.countJoin
  split <;> split <;> rfl

@[simp] theorem Member.countQuiet_number (own : CellState) : (m.countQuiet own).number = m.number := by
  unfold Member.countQuiet
  split
  · split <;> rfl
  · rfl

/-- A JOINING station goes on joining or becomes a MEMBER. -/
theorem Member.countJoin_state (kind : MarkKind) : (m.countJoin kind).state = m.state ∨ (m.countJoin kind).state = .member := by
  unfold Member.countJoin
  split <;> split <;> simp

/-- A CONFLICT station stays in conflict or joins. -/
theorem Member.countQuiet_state (own : CellState) : (m.countQuiet own).state = m.state ∨ (m.countQuiet own).state = .joining := by
  unfold Member.countQuiet
  split
  · split <;> simp
  · simp

@[simp] theorem Member.close_number (r : Row) : (m.close r).number = m.number := by
  unfold Member.close
  dsimp only
  split <;> simp

/-- A close leaves the state, or moves JOINING to MEMBER, or CONFLICT to JOINING. -/
theorem Member.close_state (r : Row) :
    (m.close r).state = m.state ∨ (m.state = .joining ∧ (m.close r).state = .member) ∨
      (m.state = .conflict ∧ (m.close r).state = .joining) := by
  unfold Member.close
  dsimp only
  split
  next hs =>
    obtain h | h := Member.countJoin_state { m with roster := mapAllIdx m.roster fun k e => e.close r.cells[k] } r.markKind
    · exact .inl h
    · exact .inr (.inl ⟨hs, h⟩)
  next hs =>
    obtain h | h := Member.countQuiet_state { m with roster := mapAllIdx m.roster fun k e => e.close r.cells[k] } (r.ownState m.number)
    · exact .inl h
    · exact .inr (.inr ⟨hs, h⟩)
  all_goals exact .inl rfl

/-- A word heard moves neither the number nor the state; adoption is the caller's. -/
theorem Member.hear_state (named : Station) : (m.hear named).member.state = m.state ∧ (m.hear named).member.number = m.number := by
  unfold Member.hear
  repeat' split
  all_goals exact ⟨rfl, rfl⟩

end

theorem Member.Sound.of_eq {m n : Member} (h : m.Sound) (hnumber : n.number = m.number) (hstate : n.state = m.state) : n.Sound := by
  unfold Member.Sound
  rw [hnumber, hstate]
  exact h

theorem Member.Sound.close {m : Member} (h : m.Sound) (r : Row) : (m.close r).Sound := by
  unfold Member.Sound at h ⊢
  rw [Member.close_number, h]
  obtain hs | ⟨ho, hs⟩ | ⟨ho, hs⟩ := m.close_state r <;> simp [*]

theorem Member.adopt_sound (m : Member) (k : Station) : (m.adopt k).Sound := by simp [Member.Sound, Member.adopt]

/-! ### The station -/

/-- Silent where it must be, with its number held where it must be. -/
def State.Hushed (s : State) : Prop := s.Silent ∧ s.member.Sound

section

variable {s t : State}

theorem State.Hushed.of_eq (h : s.Hushed) (hstate : t.member.state = s.member.state) (hnumber : t.member.number = s.member.number)
    (hdrive : t.mark.drive = s.mark.drive) (hled : t.mark.led = s.mark.led) (htx : t.line.tx = s.line.tx)
    (hdriving : t.line.summaryDriving = s.line.summaryDriving) : t.Hushed := by
  obtain ⟨⟨hmark, hreport, hwindow⟩, hsound⟩ := h
  refine ⟨⟨?_, ?_, ?_⟩, hsound.of_eq hnumber hstate⟩
  · rwa [hstate, hdrive, hled]
  · rwa [hstate, htx]
  · rwa [hstate, hdriving]

/-- A station that drives nothing and sends nothing. -/
theorem State.Hushed.of_released (hdrive : t.mark.drive = .released) (hled : t.mark.led = false) (htx : t.line.tx = none)
    (hdriving : t.line.summaryDriving = false) (hsound : t.member.Sound) : t.Hushed :=
  ⟨⟨fun _ => ⟨hdrive, hled⟩, fun _ => htx, fun _ _ => hdriving⟩, hsound⟩

/-- Only the membership unit moves, by a close. -/
theorem State.Hushed.closed (h : s.Hushed) {r : Row} (hmember : t.member = s.member.close r) (hdrive : t.mark.drive = s.mark.drive)
    (hled : t.mark.led = s.mark.led) (htx : t.line.tx = s.line.tx) (hdriving : t.line.summaryDriving = s.line.summaryDriving) :
    t.Hushed := by
  obtain ⟨⟨hmark, hreport, hwindow⟩, hsound⟩ := h
  have hstay : t.member.state ≠ .member → s.member.state ≠ .member := by
    rw [hmember]
    obtain hs | ⟨ho, hs⟩ | ⟨ho, hs⟩ := s.member.close_state r <;> simp [*]
  refine ⟨⟨fun hm => ?_, fun hm => ?_, fun hm hj => ?_⟩, ?_⟩
  · rw [hdrive, hled]
    exact hmark (hstay hm)
  · rw [htx]
    exact hreport (hstay hm)
  · rw [hdriving]
    refine hwindow (hstay hm) ?_
    rw [hmember] at hm hj
    obtain hs | ⟨ho, hs⟩ | ⟨ho, hs⟩ := s.member.close_state r
    · rwa [hs] at hj
    · exact absurd hs hm
    · exact absurd hs hj
  · rw [hmember]
    exact hsound.close r

theorem State.Hushed.closeRow (h : s.Hushed) (cut : Bool) (collected : TimeState) : (s.closeRow cut collected).Hushed := by
  refine State.closeRow_cases (P := State.Hushed) s _ _ (fun _ => h) (fun _ _ _ => h.of_eq rfl rfl rfl rfl rfl rfl) fun r _ _ => ?_
  refine h.closed (State.closeBlocks_member_eq _ _ _ _) ?_ ?_ ?_ ?_
  · rw [State.closeBlocks_mark_eq]
    rfl
  · rw [State.closeBlocks_mark_eq]
    rfl
  · rw [State.closeBlocks_line]
    rfl
  · rw [State.closeBlocks_line]
    rfl

theorem Member.leads_state {m : Member} {k : Option Station} (h : m.leads k = true) : m.state = .member := by
  simp only [Member.leads, Bool.and_eq_true, decide_eq_true_eq] at h
  exact h.1.1

theorem State.Hushed.blocksAtBoundary (h : s.Hushed) (v : BoundaryView) (b : Bool) : (s.blocksAtBoundary v b).Hushed := by
  obtain ⟨⟨hmark, hreport, hwindow⟩, hsound⟩ := h
  have hmember : (s.blocksAtBoundary v b).member.state = s.member.state := by rw [State.blocksAtBoundary_member_eq, Member.boundary_state]
  refine ⟨⟨fun hm => ?_, fun hm => ?_, fun hm hj => ?_⟩, ?_⟩
  · rw [hmember] at hm
    rw [State.blocksAtBoundary_mark_eq, State.markBoundary_mark_eq]
    split
    · exact hmark hm
    · have hleads : s.member.leads s.mark.nextLeader = false := by
        by_contra hne
        exact hm (Member.leads_state (by simpa using hne))
      simpa [MarkUnit.boundary, hleads, MarkUnit.rebase] using (hmark hm).1
  · rw [State.blocksAtBoundary_line_eq]
    exact hreport (hmember ▸ hm)
  · rw [State.blocksAtBoundary_line_eq]
    exact hwindow (hmember ▸ hm) (hmember ▸ hj)
  · rw [State.blocksAtBoundary_member_eq]
    exact hsound.of_eq rfl rfl

theorem State.Hushed.stepTo (h : s.Hushed) (kind : BoundaryKind) (cause : Option (MarkKind × Int)) (collected : TimeState)
    (shift : Int) (tick : Nat) (temp : Int) (others : Bool) : (s.stepTo kind cause collected shift tick temp others).Hushed := by
  rw [State.stepTo_eq, State.cutAtStep_eq]
  have hline := State.endLineActivity_line_eq s
  have hbefore : (s.beforeCut kind tick temp others).Hushed := by
    refine ⟨⟨fun hm => ?_, fun _ => ?_, fun _ _ => ?_⟩, ?_⟩
    · rw [State.beforeCut_mark]
      exact ⟨rfl, (h.1.mark (by simpa using hm)).2⟩
    · rw [State.beforeCut_line, hline]
    · rw [State.beforeCut_line, hline]
    · rw [State.beforeCut_member]
      exact h.2
  exact (hbefore.closeRow true collected).blocksAtBoundary _ _

theorem State.hushed_keptAtEdges : KeptAtEdges State.Hushed where
  rise _ _ h := h.of_eq rfl rfl rfl rfl rfl rfl
  reach _ _ h := h.of_eq rfl rfl rfl rfl rfl rfl
  setPins _ _ h := h.of_eq rfl rfl rfl rfl rfl rfl
  setPulse _ _ h := h.of_eq rfl rfl rfl rfl rfl rfl
  takeEdge _ _ h := h.of_eq rfl rfl rfl rfl rfl rfl
  labelEdge _ _ h := h.of_eq (by simp) (by simp) (by simp) (by simp) (by simp) (by simp)
  recordPulse s kind rise attributed phase taken h := by
    have hmark : (s.recordPulse kind rise attributed phase taken).mark.drive = s.mark.drive ∧
        (s.recordPulse kind rise attributed phase taken).mark.led = s.mark.led := by
      unfold State.recordPulse MarkUnit.take
      dsimp only
      repeat' split
      all_goals exact ⟨rfl, rfl⟩
    exact h.of_eq (by simp) (by simp) hmark.1 hmark.2 (by simp) (by simp)
  stepTo _ _ _ _ _ _ _ _ _ h := h.stepTo ..

/-- A station that leaves MEMBER and takes another state, as every state but MEMBER has it. -/
theorem State.leaveMember_hushed (s : State) {m : Member} (hm : m.Sound) : (s.leaveMember.setMember m).Hushed := by
  refine State.Hushed.of_released ?_ ?_ ?_ ?_ hm <;>
    simp [State.leaveMember_mark_eq, State.leaveMember_line_eq, DataLine.releaseWindow]

theorem State.Hushed.adoptNumber (h : s.Hushed) (k : Station) : (s.adoptNumber k).Hushed := by
  have hother (hm : s.member.state ≠ .member) : (s.setMember (s.member.adopt k)).Hushed :=
    ⟨⟨fun _ => h.1.mark hm, fun _ => h.1.report hm, fun _ hj => absurd rfl hj⟩, Member.adopt_sound _ k⟩
  unfold State.adoptNumber
  dsimp only
  split
  next => exact s.leaveMember_hushed (Member.adopt_sound _ k)
  all_goals
    next hs => exact hother (by simp [hs])

theorem State.Hushed.wordComplete (h : s.Hushed) (number complement : BitVec 4) (stop : Bool) :
    (s.wordComplete number complement stop).Hushed := by
  unfold State.wordComplete
  dsimp only
  split
  · have hheard (m : Member) (hm : m.state = s.member.state ∧ m.number = s.member.number) (k : Station) :
        (s.setMember (m.hear k).member).Hushed := by
      obtain ⟨hstate, hnumber⟩ := m.hear_state k
      exact h.of_eq (hstate.trans hm.1) (hnumber.trans hm.2) rfl rfl rfl rfl
    split
    · exact (hheard { s.member with quiet := 0, wordSeen := true, chainRx := .hunting } ⟨rfl, rfl⟩ _).adoptNumber _
    · exact hheard { s.member with quiet := 0, wordSeen := true, chainRx := .hunting } ⟨rfl, rfl⟩ _
  · exact h.of_eq rfl rfl rfl rfl rfl rfl

theorem State.Hushed.readWord (h : s.Hushed) (rise : Int) (cells : List Bool) : (s.readWord rise cells).Hushed := by
  unfold State.readWord
  dsimp only
  split
  · exact h.of_eq rfl rfl rfl rfl rfl rfl
  · refine State.Hushed.wordComplete ?_ _ _ _
    exact h.of_eq rfl rfl rfl rfl rfl rfl

theorem State.Hushed.readFrame (h : s.Hushed) (levels : List Bool) : (s.readFrame levels).Hushed := by
  unfold State.readFrame
  split
  · exact h
  · split
    · split
      all_goals exact h.of_eq rfl rfl rfl rfl rfl rfl
    · exact h

theorem State.blank_hushed (s : State) (p : Phase) : (s.blank p).Hushed :=
  State.Hushed.of_released rfl rfl rfl rfl (by simp [Member.Sound, Member.afterStart])

theorem State.beginStart_hushed (s : State) : s.beginStart.Hushed :=
  (s.blank_hushed .held).of_eq (by simp) (by simp) (by simp) (by simp) (by simp) (by simp)

/-- A number is held after a start exactly in the states that hold one (R64, R71). -/
theorem startMember_sound (setup : Setup) (head flag : Bool) :
    (Member.afterStart flag (numberAtStart setup head) (stateAtStart setup (numberAtStart setup head))).Sound := by
  unfold Member.Sound Member.afterStart stateAtStart numberAtStart
  cases setup.rejected <;> cases setup.fixedNumber <;> cases head <;> simp

theorem State.completeStart_hushed (s : State) (x : StartSamples) : (s.completeStart x).Hushed := by
  have hvalues : (s.startValues x).Hushed := State.Hushed.of_released rfl rfl rfl rfl (startMember_sound _ _ _)
  have hfirst : ((s.startValues x).raiseIf (s.startValues x).setupFaultHolds .setupFault).firstBoundary.Hushed :=
    State.Hushed.blocksAtBoundary (hvalues.of_eq (by simp) (by simp) (by simp) (by simp) (by simp) (by simp)) _ _
  unfold State.completeStart
  exact hfirst.of_eq (by simp) (by simp) (by simp) (by simp) (by simp) (by simp)

end

/-- A command that writes none of the three units. -/
theorem exec_hushed_of_unwritten {c : Instr} {s : State} (h : s.Hushed) (hmember : Block.member ∉ commandWrites c)
    (hmark : Block.mark ∉ commandWrites c) (hline : Block.line ∉ commandWrites c) : Answers State.Hushed (exec c s) := by
  obtain ⟨t, ht, hw⟩ := exec_unwritten c s
  have hm := hw.member hmember
  have hk := hw.mark hmark
  have hl := hw.line hline
  exact ⟨t, ht, h.of_eq (by rw [hm]) (by rw [hm]) (by rw [hk]) (by rw [hk]) (by rw [hl]) (by rw [hl])⟩

theorem exec_hushed (c : Instr) (s : State) (h : s.Hushed) : Answers State.Hushed (exec c s) := by
  cases c with
  | ownBoundary temp =>
    refine atWork_answers h fun _ => ?_
    have hb : (s.countedBoundary temp).Hushed := by
      refine State.Hushed.blocksAtBoundary ?_ _ _
      exact h.of_eq rfl rfl rfl rfl rfl rfl
    exact hb.of_eq (by simp) (by simp) (by simp) (by simp) (by simp) (by simp)
  | referenceEdge => exact State.hushed_keptAtEdges.exec_referenceEdge h ..
  | leaderPulse => exact State.hushed_keptAtEdges.exec_leaderPulse h ..
  | fallbackPulse => exact State.hushed_keptAtEdges.exec_fallbackPulse h ..
  | markRise tick =>
    have hseen (tb : Timebase) : (s.mark.seeRise tb tick).drive = s.mark.drive ∧ (s.mark.seeRise tb tick).led = s.mark.led := by
      unfold MarkUnit.seeRise
      dsimp only
      repeat' split
      all_goals exact ⟨rfl, rfl⟩
    refine answers_next ?_
    dsimp only
    split
    · exact h
    · split
      · exact h.of_eq rfl rfl (hseen _).1 (hseen _).2 rfl rfl
      · exact h.of_eq rfl rfl rfl rfl rfl rfl
  | markPairRelease => exact answers_next (h.of_eq rfl rfl rfl rfl rfl rfl)
  | markAbsent =>
    dsimp only [exec]
    refine atHut_answers h fun _ => ?_
    dsimp only
    split
    all_goals exact h.of_eq rfl rfl rfl rfl rfl rfl
  | leaderMarkEnd | fallbackMarkEnd =>
    have hended : (s.setMark { s.mark with drive := .released }).Hushed :=
      ⟨⟨fun hm => ⟨rfl, (h.1.mark hm).2⟩, h.1.report, h.1.window⟩, h.2⟩
    dsimp only [exec]
    refine atHut_answers h fun _ => ?_
    dsimp only
    split
    · exact hended.of_eq rfl rfl rfl rfl rfl rfl
    · exact h.of_eq rfl rfl rfl rfl rfl rfl
  | fallbackMark =>
    dsimp only [exec]
    refine atHut_answers h fun _ => ?_
    dsimp only
    split
    next hdrives =>
      obtain ⟨-, hmember, -⟩ := hdrives
      exact ⟨⟨fun hm => absurd hmember hm, h.1.report, h.1.window⟩, h.2⟩
    next => exact h.of_eq rfl rfl rfl rfl rfl rfl
  | ownSlotStart =>
    dsimp only [exec]
    refine atHut_answers h fun _ => ?_
    split
    next => exact h
    next k hk =>
      have hmember : s.member.state = .member := by
        by_contra hm
        simp [State.sendsAs, hm] at hk
      exact ⟨⟨h.1.mark, fun hm => absurd hmember hm, h.1.window⟩, h.2⟩
  | summaryWindow others =>
    dsimp only [exec]
    refine atHut_answers h fun _ => ⟨⟨h.1.mark, h.1.report, fun hm hj => ?_⟩, h.2⟩
    exact Bool.or_eq_false_iff.mpr ⟨decide_eq_false hm, decide_eq_false hj⟩
  | summaryWindowEnd =>
    dsimp only [exec]
    exact atHut_answers h fun _ => ⟨⟨h.1.mark, h.1.report, fun _ _ => rfl⟩, h.2⟩
  | framingFault cells =>
    dsimp only [exec]
    exact atHut_answers h fun _ => h.readFrame cells
  | frameReceived cells =>
    dsimp only [exec]
    exact atHut_answers h fun _ => h.readFrame cells
  | slotStart | huntTimeout | summaryOrRead | chainWordEnd =>
    dsimp only [exec]
    refine atHut_answers h fun _ => ?_
    repeat' split
    all_goals exact h.of_eq rfl rfl rfl rfl rfl rfl
  | frameFirstRise | summaryWindowRise | slotEnd | summaryHuntEnd | chainWordSend =>
    dsimp only [exec]
    refine atHut_answers h fun _ => ?_
    dsimp only
    repeat' split
    all_goals exact h.of_eq rfl rfl rfl rfl rfl rfl
  | transmissionComplete =>
    dsimp only [exec]
    refine atHut_answers h fun _ => ?_
    split
    · exact h
    · exact ⟨⟨h.1.mark, fun _ => rfl, h.1.window⟩, h.2⟩
  | collided cell =>
    have hnumbered (hm : s.member.state = .member) : ({ s.member with state := .conflict, conflictQuiet := 0 } : Member).Sound := by
      have hnumber : s.member.number ≠ none := fun hnone => by
        have := h.2.mp hnone
        simp [hm] at this
      simp [Member.Sound, hnumber]
    dsimp only [exec]
    refine atHut_answers h fun _ => ?_
    split
    · exact h
    · split
      · dsimp only
        split
        next hthird => exact State.leaveMember_hushed _ (hnumbered hthird.2)
        next => exact ⟨⟨h.1.mark, fun _ => rfl, h.1.window⟩, h.2⟩
      · exact h
  | rowClose =>
    refine atWork_answers h fun _ => ?_
    have hreach : (s.reach Config.rowClose).Hushed := h.of_eq rfl rfl rfl rfl rfl rfl
    exact (hreach.closeRow false s.tb.timeState).of_eq (by simp) (by simp) (by simp) (by simp) (by simp) (by simp)
  | chainWordReceived rise asserted cells =>
    refine atHut_answers h fun _ => ?_
    split
    · split
      · split
        · exact h
        · split
          · exact h.readWord _ _
          · exact h.of_eq rfl rfl rfl rfl rfl rfl
      · exact h.readWord _ _
    · exact h
  | powerOn => exact answers_next (State.beginStart_hushed _)
  | powerLoss => exact answers_next (State.blank_hushed _ _)
  | resetAssert => exact answers_ite (fun _ => h.of_eq rfl rfl rfl rfl rfl rfl) fun _ => State.beginStart_hushed _
  | resetRelease => exact answers_ite (fun _ => State.beginStart_hushed _) fun _ => h.of_eq rfl rfl rfl rfl rfl rfl
  | restartStart => exact atWork_answers h fun _ => by split <;> [exact State.beginStart_hushed s; exact h]
  | startComplete x => exact answers_ite (fun _ => State.completeStart_hushed s x) fun _ => h
  | _ => exact exec_hushed_of_unwritten h (by simp [commandWrites]) (by simp [commandWrites]) (by simp [commandWrites])

/-- Settles O56: what a command has a station drive, send or hold goes with the membership state that it leaves. -/
theorem stepKeepsSilence : Obligations.StepKeepsSilence := fun _ _ hsilent hsound ht =>
  step_keeps (P := State.Hushed) (fun _ _ h => h.of_eq rfl rfl rfl rfl rfl rfl) exec_hushed ⟨hsilent, hsound⟩ ht

end Sys2Proof.Machine
end

section
/-! SUPPORT. The archive's invariant (R158, R161 to R173): the ring of slots and its pointers, the write queue, the read cursor and the stream of
entry images agree through every command. -/

namespace Sys2Proof.Machine

/-! ### The ring -/

namespace Retention.RingSound

variable {m : Retention} (h : m.RingSound)

include h

/-- Newest is the highest number present. -/
theorem seq_le_newest {x : Slot} (hx : x ∈ m.slots) : x.seq ≤ m.newest := by
  obtain ⟨front, last, hslots⟩ : ∃ front last, m.slots = front ++ [last] :=
    ⟨_, _, (List.dropLast_append_getLast (List.ne_nil_of_mem hx)).symm⟩
  have hlast := h.newest last (by simp [hslots])
  have hrising := h.rising
  rw [hslots, List.map_append, List.pairwise_append] at hrising
  rw [hslots, List.mem_append, List.mem_singleton] at hx
  obtain hx | rfl := hx
  · have := hrising.2.2 x.seq (List.mem_map_of_mem hx) last.seq (by simp)
    omega
  · omega

theorem oldestKept_le : m.oldestKept ≤ m.newest + 1 := by
  cases hslots : m.slots with
  | nil =>
    obtain ⟨hn, ho⟩ := h.empty hslots
    omega
  | cons x rest =>
    have hold := h.oldest x (by simp [hslots])
    have hle := h.seq_le_newest (x := x) (by simp [hslots])
    omega

/-- A full ring whose oldest entry gives way. -/
theorem removeOldest {x y : Slot} {rest : List Slot} (hslots : m.slots = x :: y :: rest) : m.removeOldest.RingSound := by
  have heq : m.removeOldest = { m with slots := y :: rest, oldestKept := y.seq } := by simp [Retention.removeOldest, hslots]
  have hsize := h.size
  have hrising := h.rising
  have hrun := h.run
  simp only [hslots] at hsize hrising hrun
  have hpos : 1 ≤ y.seq := by
    have hlt : x.seq < y.seq := List.rel_of_pairwise_cons hrising (by simp)
    omega
  rw [heq]
  exact { h with
    size := by simp only [List.length_cons] at hsize ⊢; omega
    rising := hrising.of_cons
    run := fun i hi => by simpa using hrun (i + 1) (by simpa using hi)
    empty := fun hnil => by cases hnil
    oldest := fun z hz => by cases hz; rfl
    newest := fun z hz => h.newest z (by rw [hslots, List.getLast?_cons_cons]; exact hz)
    first := hpos }

/-- An entry written above newest, in the slot after that of newest. -/
theorem complete {slot : Nat} {e : Entry} (hroom : m.slots.length < Config.archiveSlots) (hslot : slot = m.nextSlot)
    (habove : m.newest < e.seq) (hbelow : e.seq < m.nextSeq) : (m.complete slot e).RingSound := by
  have hmem {x : Slot} (hx : x ∈ m.slots) : x.seq < e.seq := (h.seq_le_newest hx).trans_lt habove
  have hnext := h.next
  have hrelease := h.release
  refine ⟨?_, ?_, fun i hi => ?_, fun hnil => ?_, fun x hx => ?_, fun x hx => ?_, ⟨hbelow, hnext.2⟩, ?_, ?_⟩
  · simpa [Retention.complete] using hroom
  · simp only [Retention.complete, List.map_append, List.pairwise_append]
    refine ⟨h.rising, by simp, fun a ha b hb => ?_⟩
    obtain ⟨x, hx, rfl⟩ := List.mem_map.mp ha
    obtain rfl : b = e.seq := by simpa using hb
    exact hmem hx
  · simp only [Retention.complete, List.length_append, List.length_singleton] at hi ⊢
    rcases Nat.lt_or_ge (i + 1) m.slots.length with hlt | hge
    · rw [List.getElem_append_left hlt, List.getElem_append_left (by omega)]
      exact h.run i hlt
    · have hlast : m.slots.getLast? = some m.slots[i] := by
        rw [List.getLast?_eq_getElem?, List.getElem?_eq_some_iff]
        exact ⟨by omega, by congr 1; omega⟩
      rw [List.getElem_append_right hge, List.getElem_append_left (by omega)]
      simp [hslot, Retention.nextSlot, hlast]
  · simp [Retention.complete] at hnil
  · cases hslots : m.slots with
    | nil =>
      simp only [Retention.complete, hslots] at hx ⊢
      cases hx
      rfl
    | cons y rest =>
      simp only [Retention.complete, hslots] at hx ⊢
      cases hx
      exact h.oldest _ (by simp [hslots])
  · simp only [Retention.complete, List.getLast?_append, List.getLast?_singleton] at hx ⊢
    cases hx
    rfl
  · simp only [Retention.complete]
    omega
  · simp only [Retention.complete]
    split
    · omega
    · exact h.first

end Retention.RingSound

/-! ### The port -/

/-- What the port holds of the archive: its cursor, the entry being sent, and the stream. -/
structure Port.Follows (p : Port) (m : Retention) : Prop where
  cursor : m.oldestKept ≤ p.cursor ∧ p.cursor ≤ m.newest + 1
  sending : ∀ q, p.sending = some q → q ≤ m.newest
  stream : p.command = some .readEntries → ∀ image, p.image = some image → 0 < p.leads ∨ p.imageIndex < image.length

section

variable {s t : State}

theorem State.ArchiveSound.follows (h : s.ArchiveSound) : s.port.Follows s.retention := ⟨h.cursor, h.sending, h.stream⟩

theorem State.ArchiveSound.setPort (h : s.ArchiveSound) {p : Port} (hp : p.Follows s.retention) : (s.setPort p).ArchiveSound :=
  { h with cursor := hp.cursor, sending := hp.sending, stream := hp.stream }

/-- What writes neither the slots and their pointers nor the write queue, and of the port only its notices. -/
theorem State.ArchiveSound.of_kept (h : s.ArchiveSound)
    (hretention : t.retention = { s.retention with drift := t.retention.drift, biasSlots := t.retention.biasSlots })
    (harchive : t.archive = s.archive) (hport : t.port = { s.port with notices := t.port.notices }) : t.ArchiveSound := by
  have hring : t.retention.RingSound := by
    rw [hretention]
    exact { h.ring with }
  refine ⟨hring, ?_, ?_, ?_, ?_, ?_, ?_, ?_⟩
  · rw [harchive]; exact h.queue
  · rw [harchive]; exact h.order
  · rw [harchive, hretention]; exact h.waiting
  · rw [harchive, hretention]; exact h.writing
  · rw [hport, hretention]; exact h.cursor
  · rw [hport, hretention]; exact h.sending
  · rw [hport]; exact h.stream

/-- What leaves the memory, the queue and the port. -/
theorem State.ArchiveSound.of_eq (h : s.ArchiveSound) (hretention : t.retention = s.retention) (harchive : t.archive = s.archive)
    (hport : t.port = s.port) : t.ArchiveSound :=
  h.of_kept (by rw [hretention]) harchive (by rw [hport])

theorem State.ArchiveSound.rise (h : s.ArchiveSound) (c : ConditionSet) : (s.rise c).ArchiveSound := h.of_kept rfl rfl rfl

/-- A port with neither a command nor an entry in hand. -/
theorem State.ArchiveSound.idle (h : s.ArchiveSound) {p : Port} (hcursor : p.cursor = s.port.cursor) (hsending : p.sending = none)
    (hcommand : p.command = none) : (s.setPort p).ArchiveSound :=
  h.setPort ⟨hcursor ▸ h.cursor, by simp [hsending], by simp [hcommand]⟩

theorem State.readWord_port_eq (s : State) (start : Int) (levels : List Bool) :
    (s.readWord start levels).port = { s.port with notices := (s.readWord start levels).port.notices } := by
  unfold State.readWord State.wordComplete
  dsimp only
  repeat' split
  all_goals simp

theorem State.converted_retention_eq (s : State) (i : Channel) (o : ConversionOutcome) :
    (s.converted i o).retention =
      { s.retention with drift := (s.converted i o).retention.drift, biasSlots := (s.converted i o).retention.biasSlots } := by
  unfold State.converted
  dsimp only
  split <;> split <;> simp [Retention.keepBias]

theorem State.converted_port_eq (s : State) (i : Channel) (o : ConversionOutcome) :
    (s.converted i o).port = { s.port with notices := (s.converted i o).port.notices } := by
  unfold State.converted
  dsimp only
  split <;> split <;> simp [State.raiseIf]

/-! ### The row close -/

theorem State.ArchiveSound.archiveClose (h : s.ArchiveSound) (r : Row) (own : Option Station) (edge : Bool) :
    (s.archiveClose r own edge).ArchiveSound := by
  obtain ⟨hring, hqueue, horder, hwaiting, hwriting, hcursor, hsending, hstream⟩ := h
  obtain ⟨hnewest, hmax⟩ := hring.next
  unfold State.archiveClose
  dsimp only
  split
  next hlt =>
    have hring' : ({ s.retention with nextSeq := s.retention.nextSeq + 1 } : Retention).RingSound :=
      { hring with next := ⟨Nat.lt_succ_of_lt hnewest, hlt⟩ }
    have hwaiting' : ∀ e ∈ s.archive.queue, s.retention.newest < e.seq ∧ e.seq < s.retention.nextSeq + 1 := fun e he =>
      ⟨(hwaiting e he).1, Nat.lt_succ_of_lt (hwaiting e he).2⟩
    unfold Archive.join
    split
    next hroom =>
      refine ⟨hring', ?_, ?_, ?_, fun k hk => ?_, hcursor, hsending, hstream⟩
      · simpa using hroom
      · simp only [State.setArchive_archive, List.map_append, List.pairwise_append]
        refine ⟨horder, by simp, fun a ha b hb => ?_⟩
        obtain ⟨e, he, rfl⟩ := List.mem_map.mp ha
        obtain rfl : b = s.retention.nextSeq := by simpa [formEntry] using hb
        exact (hwaiting e he).2
      · intro e he
        obtain he | rfl := by simpa using he
        · exact hwaiting' e he
        · exact ⟨hnewest, Nat.lt_succ_self _⟩
      · obtain ⟨hne, hrest⟩ := hwriting k hk
        exact ⟨by simp, hrest⟩
    next => exact ⟨hring', hqueue, horder, hwaiting', hwriting, hcursor, hsending, hstream⟩
  next => exact State.ArchiveSound.rise ⟨hring, hqueue, horder, hwaiting, hwriting, hcursor, hsending, hstream⟩ _

theorem State.ArchiveSound.closeRow (h : s.ArchiveSound) (cut : Bool) (collected : TimeState) : (s.closeRow cut collected).ArchiveSound := by
  refine State.closeRow_cases (P := State.ArchiveSound) s _ _ (fun _ => h) (fun _ _ _ => h.of_eq rfl rfl rfl) fun r _ _ => ?_
  unfold State.closeBlocks
  dsimp only
  split
  · refine State.ArchiveSound.archiveClose ?_ _ _ _
    exact h.of_kept (by simp [State.raiseIf]) (by simp [State.raiseIf]) (by simp [State.raiseIf])
  · exact h.of_kept (by simp [State.raiseIf]) (by simp [State.raiseIf]) (by simp [State.raiseIf])

theorem State.ArchiveSound.blocksAtBoundary (h : s.ArchiveSound) (v : BoundaryView) (b : Bool) : (s.blocksAtBoundary v b).ArchiveSound :=
  h.of_kept (by simp) (by simp) (State.blocksAtBoundary_port_eq s v b)

theorem State.ArchiveSound.latchFrom (h : s.ArchiveSound) (before : State) : (s.latchFrom before).ArchiveSound := h.rise _

theorem State.archiveSound_keptAtEdges : KeptAtEdges State.ArchiveSound where
  rise _ c h := h.rise c
  reach _ _ h := h.of_eq rfl rfl rfl
  setPins _ _ h := h.of_eq rfl rfl rfl
  setPulse _ _ h := h.of_eq rfl rfl rfl
  takeEdge _ _ h := h.of_kept rfl rfl rfl
  labelEdge s phase h := by
    unfold State.labelEdge
    dsimp only
    split
    all_goals exact h.of_kept rfl rfl rfl
  recordPulse _ _ _ _ _ _ h := h.of_eq (by simp) (by simp) (by simp)
  stepTo s kind cause collected shift tick temp others _ h := by
    rw [State.stepTo_eq, State.cutAtStep_eq]
    refine State.ArchiveSound.blocksAtBoundary (State.ArchiveSound.closeRow ?_ _ _) _ _
    exact h.of_kept (by simp) (by simp) (by simp [State.beforeCut])

/-! ### Writes of entries -/

/-- A write begins in the slot after that of newest, with room for it. -/
theorem State.ArchiveSound.beginWrite (h : s.ArchiveSound) (hne : s.archive.queue ≠ [])
    (hroom : s.retention.slots.length < Config.archiveSlots) : s.beginWrite.ArchiveSound :=
  { h with writing := fun _ hk => ⟨hne, (Option.some.inj hk).symm, hroom⟩ }

theorem State.ArchiveSound.replaceOldest (h : s.ArchiveSound) (hne : s.archive.queue ≠ [])
    (hfull : Config.archiveSlots ≤ s.retention.slots.length) : s.replaceOldest.ArchiveSound := by
  obtain ⟨x, y, rest, hslots⟩ : ∃ x y rest, s.retention.slots = x :: y :: rest := by
    match hs : s.retention.slots with
    | x :: y :: rest => exact ⟨x, y, rest, rfl⟩
    | [] | [_] => rw [hs] at hfull; simp at hfull
  have hring := h.ring.removeOldest hslots
  have hsize := h.ring.size
  have heq : s.retention.removeOldest = { s.retention with slots := y :: rest, oldestKept := y.seq } := by
    simp [Retention.removeOldest, hslots]
  have hbound := hring.oldestKept_le
  have hcursor := h.cursor
  simp only [heq] at hbound
  unfold State.replaceOldest
  dsimp only
  rw [heq] at hring ⊢
  refine State.ArchiveSound.beginWrite ⟨hring, h.queue, h.order, h.waiting, fun k hk => ?_, ?_, h.sending, h.stream⟩ hne ?_
  · obtain ⟨-, -, hlt⟩ := h.writing k hk
    omega
  · exact ⟨Nat.le_max_right _ _, Nat.max_le.mpr ⟨hcursor.2, hbound⟩⟩
  · simp only [hslots, List.length_cons] at hsize ⊢
    exact hsize

theorem State.ArchiveSound.writeStart (h : s.ArchiveSound) : s.writeStart.ArchiveSound := by
  unfold State.writeStart
  split
  next e rest hqueue hidle =>
    have hne : s.archive.queue ≠ [] := by simp [hqueue]
    split
    next hroom => exact h.beginWrite hne hroom
    next hfull =>
      have hreplaced := h.replaceOldest hne (Nat.not_lt.mp hfull)
      split
      · exact hreplaced
      · split
        · exact hreplaced.rise _
        · have hlen := h.queue
          have horder := h.order
          rw [hqueue] at hlen horder
          have hrest : rest.length ≤ Config.queueLength := (Nat.le_succ _).trans hlen
          refine State.ArchiveSound.rise (s := s.setArchive { s.archive with queue := rest }) ⟨h.ring, hrest, horder.of_cons, fun e he => ?_, fun k hk => ?_, h.cursor, h.sending, h.stream⟩ _
          · exact h.waiting e (by rw [hqueue]; exact List.mem_cons_of_mem _ he)
          ·
            rw [State.setArchive_archive, hidle] at hk
            cases hk
  next => exact h

theorem State.ArchiveSound.writeComplete (h : s.ArchiveSound) : s.writeComplete.ArchiveSound := by
  unfold State.writeComplete
  split
  next e rest slot hqueue hbusy =>
    obtain ⟨-, hslot, hroom⟩ := h.writing slot hbusy
    obtain ⟨habove, hbelow⟩ := h.waiting e (by simp [hqueue])
    have hring := h.ring.complete hroom hslot habove hbelow
    have hcursor := h.cursor
    have hlen := h.queue
    have horder := h.order
    rw [hqueue] at hlen horder
    have hwaiting : ∀ x ∈ rest, e.seq < x.seq ∧ x.seq < s.retention.nextSeq := fun x hx =>
      ⟨List.rel_of_pairwise_cons horder (List.mem_map_of_mem hx), (h.waiting x (by rw [hqueue]; exact List.mem_cons_of_mem _ hx)).2⟩
    have hsending : ∀ q, s.port.sending = some q → q ≤ e.seq := fun q hq => (h.sending q hq).trans habove.le
    dsimp only
    split
    next hempty =>
      have hold : (s.retention.complete slot e).oldestKept = e.seq := by simp [Retention.complete, hempty]
      refine ⟨hring, (Nat.le_succ _).trans hlen, horder.of_cons, hwaiting, fun k hk => (by cases hk), ?_, hsending, h.stream⟩
      simp only [Port.follow, State.setPort_port, State.setPort_retention, State.setArchive_retention, State.setRetention_retention, hold]
      refine ⟨Nat.le_max_right _ _, ?_⟩
      simp [Retention.complete]
      omega
    next hpresent =>
      have hold : (s.retention.complete slot e).oldestKept = s.retention.oldestKept := by simp [Retention.complete, hpresent]
      refine ⟨hring, (Nat.le_succ _).trans hlen, horder.of_cons, hwaiting, fun k hk => (by cases hk), ?_, hsending, h.stream⟩
      refine ⟨hold.trans_le hcursor.1, hcursor.2.trans ?_⟩
      exact Nat.succ_le_succ habove.le
  next => exact h

/-! ### The port's commands -/

/-- Once a command is carried out nothing is being sent of an entry, and no image is in hand. -/
theorem Port.executing_follows {p : Port} {m : Retention} (hcursor : m.oldestKept ≤ p.cursor ∧ p.cursor ≤ m.newest + 1) (c : PortCommand) :
    (p.executing c).Follows m :=
  ⟨hcursor, fun _ hq => (nomatch hq), fun _ _ himage => (nomatch himage)⟩

theorem Port.awaits_some {p q : Port} {c : PortCommand} (h : p.awaits c = some q) :
    q.command = some c ∧ q.cursor = p.cursor ∧ q.sending = p.sending := by
  unfold Port.awaits at h
  split at h
  · cases h
    simp [Port.takeByte, PortCommand.ofByte_code]
  · split at h <;> cases h
    next hc => exact ⟨hc, rfl, rfl⟩
  all_goals cases h

/-- A command of the port: only what carries it out matters, at a station whose port has just begun to answer it. -/
theorem execute_archiveSound {c : PortCommand} {bits : List Bool} {body : List Byte → State → State} (h : s.ArchiveSound)
    (hbody : ∀ bytes (u : State), u.ArchiveSound → u.port.command = some c → 0 < u.port.leads → u.retention = s.retention →
      (body bytes u).ArchiveSound) : Answers State.ArchiveSound (s.execute c bits body) := by
  have hexecuting (args : List Bool) : (({ s.port with args := args } : Port).executing c).Follows s.retention :=
    Port.executing_follows (p := { s.port with args := args }) h.cursor c
  refine execute_answers_cases h (fun p args hp hlt => ?_) (fun args => h.setPort ⟨?_, ?_, ?_⟩) fun args bytes _ => ?_
  · obtain ⟨hcommand, hcursor, hsending⟩ := Port.awaits_some hp
    refine h.setPort ⟨?_, ?_, fun hread => ?_⟩
    · rw [show ({ p with args := args } : Port).cursor = s.port.cursor from hcursor]
      exact h.cursor
    · rw [show ({ p with args := args } : Port).sending = s.port.sending from hsending]
      exact h.sending
    · obtain rfl : c = .readEntries := by simpa [hcommand] using hread
      exact absurd hlt (Nat.not_lt_zero _)
  · exact (hexecuting args).cursor
  · exact (hexecuting args).sending
  · exact (hexecuting args).stream
  · exact hbody bytes _ (h.setPort (hexecuting args)) rfl Nat.two_pos rfl

/-- What a body leaves of the port while the lead bytes are still to come. -/
theorem State.ArchiveSound.answered (h : s.ArchiveSound) {p : Port} (hcursor : p.cursor = s.port.cursor)
    (hsending : p.sending = s.port.sending) (hleads : 0 < p.leads) : (s.setPort p).ArchiveSound :=
  h.setPort ⟨by rw [hcursor]; exact h.cursor, by rw [hsending]; exact h.sending, fun _ _ _ => .inl hleads⟩

/-! ### The stream of entry images -/

/-- What the next entry image shows is an entry present. -/
theorem State.nextEntryImage_entry_le (h : s.ArchiveSound) {q : Nat} (hq : s.nextEntryImage.entry = some q) : q ≤ s.retention.newest := by
  unfold State.nextEntryImage at hq
  split at hq
  next x hfind =>
    cases hq
    exact h.ring.seq_le_newest (List.mem_of_find?_eq_some hfind)
  next => split at hq <;> cases hq

/-- Where an image's first byte is due it is formed, so the stream stands inside an image again. -/
theorem State.ArchiveSound.due (h : s.ArchiveSound) {p : Port} (hcursor : s.retention.oldestKept ≤ p.cursor ∧ p.cursor ≤ s.retention.newest + 1)
    (hsending : ∀ q, p.sending = some q → q ≤ s.retention.newest) : (s.setPort p).due.ArchiveSound := by
  have hquiet : ({ p with command := none } : Port).Follows s.retention := ⟨hcursor, hsending, fun hread => (nomatch hread)⟩
  unfold State.due
  split
  next =>
    have himage : State.ArchiveSound ((s.setPort p).setPort
        { p with image := some (s.setPort p).nextEntryImage.bytes, imageIndex := 0, leads := 0, sending := (s.setPort p).nextEntryImage.entry }) := ?_
    · exact himage.of_eq rfl rfl rfl
    refine State.ArchiveSound.setPort (h.setPort hquiet) ⟨hcursor, fun q hq => ?_, fun _ image himage => ?_⟩
    · exact State.nextEntryImage_entry_le (h.setPort hquiet) hq
    · right
      obtain rfl := Option.some.inj himage
      rw [State.nextEntryImage_length]
      exact Nat.succ_pos _
  next hnone =>
    refine h.setPort ⟨hcursor, hsending, fun hread image himage => ?_⟩
    by_contra hout
    obtain ⟨hleads, hindex⟩ := not_or.mp hout
    exact hnone ⟨hread, by simp [himage], Nat.eq_zero_of_not_pos hleads, by simpa [Port.betweenImages, himage] using hindex⟩

/-- One byte clocked out keeps the cursor within its bounds, and the entry being sent one that is present. -/
theorem Port.clockByte_follows {p : Port} {m : Retention} (hm : m.RingSound) (h : p.Follows m) :
    (m.oldestKept ≤ (p.clockByte m.oldestKept).cursor ∧ (p.clockByte m.oldestKept).cursor ≤ m.newest + 1) ∧
      ∀ q, (p.clockByte m.oldestKept).sending = some q → q ≤ m.newest := by
  have hsame := And.intro h.cursor h.sending
  unfold Port.clockByte
  split
  · exact hsame
  · dsimp only
    split
    · exact hsame
    · split
      · unfold Port.imageSent
        split
        next q hq =>
          have hle : q ≤ m.newest := h.sending q hq
          exact ⟨⟨Nat.le_max_right _ _, Nat.max_le.mpr ⟨Nat.succ_le_succ hle, hm.oldestKept_le⟩⟩, fun _ hnone => (nomatch hnone)⟩
        next => exact hsame
      · exact hsame

theorem State.ArchiveSound.clock (n : Nat) (h : s.ArchiveSound) : (State.clock n s).ArchiveSound := by
  induction n generalizing s with
  | zero => exact h
  | succ n ih =>
    obtain ⟨hcursor, hsending⟩ := Port.clockByte_follows h.ring h.follows
    exact ih (h.due hcursor hsending)

/-! ### The commands -/

/-- What a start begins with: an empty queue, and the cursor on oldest kept (R174, R192). -/
theorem State.ArchiveSound.started (h : s.ArchiveSound) (harchive : t.archive = .afterStart)
    (hretention : t.retention = { s.retention with drift := t.retention.drift, biasSlots := t.retention.biasSlots })
    (hport : t.port = .afterStart s.retention.oldestKept) : t.ArchiveSound := by
  have hempty : ((s.setArchive .afterStart).setPort (.afterStart s.retention.oldestKept)).ArchiveSound :=
    ⟨h.ring, Nat.zero_le _, .nil, by simp [Archive.afterStart], by simp [Archive.afterStart], ⟨Nat.le_refl _, h.ring.oldestKept_le⟩,
      by simp [Port.afterStart], by simp [Port.afterStart]⟩
  exact hempty.of_kept hretention harchive (by rw [hport]; rfl)

theorem State.ArchiveSound.blank (h : s.ArchiveSound) (p : Phase) : (s.blank p).ArchiveSound := h.started rfl rfl rfl

theorem State.beginStart_archiveSound (h : s.ArchiveSound) : s.beginStart.ArchiveSound :=
  (h.blank .held).of_eq (by simp) (by simp) (by simp)

theorem State.completeStart_archiveSound (h : s.ArchiveSound) (x : StartSamples) : (s.completeStart x).ArchiveSound := by
  have hvalues : (s.startValues x).ArchiveSound := h.started rfl rfl rfl
  unfold State.completeStart
  refine State.ArchiveSound.latchFrom (State.ArchiveSound.blocksAtBoundary ?_ _ _) _
  exact hvalues.of_kept (by simp) (by simp) (by simp [State.raiseIf])

end

/-- A command that writes neither archive, retention nor port. -/
theorem exec_archiveSound_of_unwritten {c : Instr} {s : State} (h : s.ArchiveSound) (hretention : Block.retention ∉ commandWrites c)
    (harchive : Block.archive ∉ commandWrites c) (hport : Block.port ∉ commandWrites c) : Answers State.ArchiveSound (exec c s) := by
  obtain ⟨t, ht, hw⟩ := exec_unwritten c s
  exact ⟨t, ht, h.of_eq (hw.retention hretention) (hw.archive harchive) (hw.port hport)⟩

theorem exec_archiveSound (c : Instr) (s : State) (h : s.ArchiveSound) : Answers State.ArchiveSound (exec c s) := by
  cases c with
  | ownBoundary temp =>
    dsimp only [exec]
    refine atWork_answers h fun _ => State.ArchiveSound.latchFrom (State.ArchiveSound.blocksAtBoundary ?_ _ _) _
    exact h.of_eq rfl rfl rfl
  | referenceEdge tick temp others => exact State.archiveSound_keptAtEdges.exec_referenceEdge h tick temp others
  | leaderPulse tick temp => exact State.archiveSound_keptAtEdges.exec_leaderPulse h tick temp
  | fallbackPulse temp others => exact State.archiveSound_keptAtEdges.exec_fallbackPulse h temp others
  | rowClose =>
    dsimp only [exec]
    refine atWork_answers h fun _ => ?_
    have hreach : (s.reach Config.rowClose).ArchiveSound := h.of_eq rfl rfl rfl
    exact (hreach.closeRow false s.tb.timeState).latchFrom s
  | chainWordReceived rise asserted cells =>
    have hread (start : Int) (levels : List Bool) : (s.readWord start levels).ArchiveSound :=
      h.of_kept (by simp) (by simp) (s.readWord_port_eq start levels)
    dsimp only [exec]
    refine atHut_answers h fun _ => ?_
    split
    · split
      · split
        · exact h
        · split
          · exact hread _ _
          · exact h.of_eq rfl rfl rfl
      · exact hread _ _
    · exact h
  | conversion channel k raw =>
    dsimp only [exec]
    refine atWork_answers h fun _ => ?_
    dsimp only
    split
    · refine State.ArchiveSound.latchFrom ?_ _
      exact h.of_kept (State.converted_retention_eq ..) (by simp) (State.converted_port_eq ..)
    · exact h.of_eq rfl rfl rfl
  | archiveWriteStart => exact atWork_answers h fun _ => h.writeStart
  | archiveWriteComplete => exact atWork_answers h fun _ => h.writeComplete
  | transactionBegin =>
    have hpins : (s.setPins { s.pins with selectLow := true }).ArchiveSound := h.of_eq rfl rfl rfl
    refine answers_next ?_
    split
    · exact h
    · dsimp only
      split
      · exact hpins.idle rfl rfl rfl
      · exact hpins
  | transactionEnd edges =>
    have hpins : (s.setPins { s.pins with selectLow := false }).ArchiveSound := h.of_eq rfl rfl rfl
    refine answers_next ?_
    dsimp only
    split
    · exact hpins.idle rfl rfl rfl
    · exact hpins
  | unknownCommand code =>
    dsimp only [exec]
    refine atWork_answers h fun _ => ?_
    split
    next hunknown =>
      rw [show s.port.takeByte code = { s.port with trans := .ignoring, lastResult := .unknownCommand } by
        simp [Port.takeByte, hunknown.2]]
      exact h.setPort ⟨h.cursor, h.sending, h.stream⟩
    next => exact h
  | statusResultClocked =>
    dsimp only [exec]
    refine atWork_answers h fun _ => ?_
    split
    next hstatus => exact h.setPort ⟨h.cursor, h.sending, fun hread => by simp [hstatus.1] at hread⟩
    next => exact h
  | setupWriteComplete =>
    dsimp only [exec]
    refine atWork_answers h fun _ => ?_
    split
    next record _ =>
      have hstore : (s.setStore { stored := record, writing := none }).ArchiveSound := h.of_eq rfl rfl rfl
      exact hstore.setPort ⟨h.cursor, h.sending, h.stream⟩
    next => exact h
  | entryImage bytes =>
    dsimp only [exec]
    refine atWork_answers h fun _ => ?_
    split
    · exact h.clock _
    · exact h
  | readStatus | readEntries | readRoster | readChannelState | readDriftTable | readSetup | clearNotices | stationRestart =>
    dsimp only [exec]
    refine execute_archiveSound h fun _ u hu _ hleads _ => ?_
    exact hu.answered rfl rfl hleads
  | readRow bits =>
    dsimp only [exec]
    refine execute_archiveSound h fun _ u hu _ hleads _ => ?_
    split
    all_goals exact hu.answered rfl rfl hleads
  | seek bits =>
    dsimp only [exec]
    refine execute_archiveSound h fun args u hu _ hleads _ => ?_
    have hbound := hu.ring.oldestKept_le
    have hmoved {n : Nat} (r : PortResult) (hn : u.retention.oldestKept ≤ n ∧ n ≤ u.retention.newest + 1) :
        ((u.setPort { u.port with cursor := n }).result r).ArchiveSound :=
      hu.setPort ⟨hn, hu.sending, fun _ _ _ => .inl hleads⟩
    dsimp only
    split
    · exact hmoved _ ⟨Nat.le_refl _, hbound⟩
    · split
      · exact hmoved _ ⟨hbound, Nat.le_refl _⟩
      · exact hmoved _ ⟨by omega, by omega⟩
  | release bits =>
    dsimp only [exec]
    refine execute_archiveSound h fun args u hu _ hleads _ => ?_
    dsimp only
    split
    · exact hu.answered rfl rfl hleads
    · split
      · exact hu.answered rfl rfl hleads
      · have hreleased : (u.setRetention { u.retention with releasePoint := leNat args }).ArchiveSound :=
          { hu with ring := { hu.ring with release := by simp; omega } }
        exact hreleased.answered rfl rfl hleads
  | clearDriftTable =>
    dsimp only [exec]
    refine execute_archiveSound h fun args u hu _ hleads _ => ?_
    have hcleared : (u.setRetention { u.retention with drift := Vector.replicate 16 { estimate := 0, weight := 0 } }).ArchiveSound :=
      hu.of_kept rfl rfl rfl
    exact hcleared.answered rfl rfl hleads
  | setLabel bits =>
    dsimp only [exec]
    refine execute_archiveSound h fun args u hu _ hleads _ => ?_
    split
    · refine State.ArchiveSound.answered ?_ rfl rfl hleads
      exact hu.of_eq rfl rfl rfl
    · exact hu.answered rfl rfl hleads
  | pipelineRestart =>
    dsimp only [exec]
    refine execute_archiveSound h fun args u hu _ hleads _ => ?_
    refine State.ArchiveSound.answered ?_ rfl rfl hleads
    exact hu.of_eq rfl rfl rfl
  | programSetup enable bits =>
    dsimp only [exec]
    refine execute_archiveSound h fun record u hu _ hleads _ => ?_
    have hpins : (u.setPins { u.pins with setupEnable := enable }).ArchiveSound := hu.of_eq rfl rfl rfl
    unfold State.programSetup
    split
    · exact hpins.answered rfl rfl hleads
    · split
      · exact hpins.answered rfl rfl hleads
      · refine State.ArchiveSound.answered ?_ rfl rfl hleads
        exact hpins.of_eq rfl rfl rfl
  | powerOn =>
    have hpins : (s.setPins { s.pins with supply := true }).ArchiveSound := h.of_eq rfl rfl rfl
    exact answers_next (State.beginStart_archiveSound hpins)
  | powerLoss =>
    have hpins : (s.setPins { s.pins with supply := false }).ArchiveSound := h.of_eq rfl rfl rfl
    exact answers_next (hpins.blank _)
  | resetAssert =>
    have hpins : (s.setPins { s.pins with resetAsserted := true }).ArchiveSound := h.of_eq rfl rfl rfl
    exact answers_ite (fun _ => hpins) fun _ => State.beginStart_archiveSound hpins
  | resetRelease =>
    have hpins : (s.setPins { s.pins with resetAsserted := false }).ArchiveSound := h.of_eq rfl rfl rfl
    exact answers_ite (fun _ => State.beginStart_archiveSound hpins) fun _ => hpins
  | restartStart => exact atWork_answers h fun _ => by split <;> [exact State.beginStart_archiveSound h; exact h]
  | startComplete x => exact answers_ite (fun _ => State.completeStart_archiveSound h x) fun _ => h
  | _ => exact exec_archiveSound_of_unwritten h (by simp [commandWrites]) (by simp [commandWrites]) (by simp [commandWrites])

/-- Settles O59: the ring, the write queue, the read cursor and the stream of entry images agree through every command. -/
theorem stepKeepsArchiveSound : Obligations.StepKeepsArchiveSound := fun _ _ h ht =>
  step_keeps (P := State.ArchiveSound) (fun _ _ h => h.of_eq rfl rfl rfl) exec_archiveSound h ht

end Sys2Proof.Machine
end

section
/-! SUPPORT. The machine right after reset is sound. -/

namespace Sys2Proof.Machine

theorem Retention.fresh_ringSound : Retention.fresh.RingSound :=
  ⟨Nat.zero_le _, .nil, fun i hi => absurd hi (Nat.not_lt_zero _), fun _ => ⟨rfl, rfl⟩, by simp [Retention.fresh], by simp [Retention.fresh],
    ⟨Nat.zero_lt_one, by decide⟩, Nat.zero_le _, Nat.le_refl 1⟩

theorem State.reset_timeSound : State.reset.TimeSound :=
  ⟨Timebase.afterStart_sound (by decide) 0, fun i => by simp [State.reset, Retention.fresh]; exact ⟨by decide, by decide, fun _ => rfl⟩,
    fun _ hr => (nomatch hr)⟩

theorem State.reset_silent : State.reset.Silent := ⟨fun _ => ⟨rfl, rfl⟩, fun _ => rfl, fun _ _ => rfl⟩

theorem State.reset_countsSound : State.reset.CountsSound :=
  ⟨Nat.zero_le _, Nat.zero_le _, Nat.zero_le _, Nat.zero_le _, by decide, by simp [State.reset, DataLine.afterStart]⟩

theorem State.reset_channelsSound : State.reset.ChannelsSound := fun i => by
  have hfront : State.reset.front[i] = FrontEnd.afterStart 0 := by simp [State.reset]
  have hdec : State.reset.dec[i] = DecChannel.afterStart := by simp [State.reset]
  rw [hfront, hdec]
  exact ⟨⟨by decide, by decide, by decide, by decide⟩, ⟨by decide, by decide, by decide, fun _ => rfl⟩⟩

/-- Until a start completes nothing is said of the correction unit, and the record after reset is rejected (R193). -/
theorem State.reset_correctionSound : State.reset.CorrectionSound :=
  ⟨fun i => Setup.halted_channels_get i ▸ ChannelSetup.off_sound, fun hrunning => (nomatch hrunning)⟩

theorem State.reset_archiveSound : State.reset.ArchiveSound :=
  ⟨Retention.fresh_ringSound, Nat.zero_le _, .nil, fun _ he => (nomatch he), fun _ hk => (nomatch hk), by decide, fun _ hq => (nomatch hq),
    fun hread => (nomatch hread)⟩

theorem SetupStore.fresh_sound : SetupStore.fresh.Sound := ⟨List.length_replicate, fun _ hr => (nomatch hr)⟩

/-- Settles O60: the machine right after reset is sound. -/
theorem resetIsSound : Obligations.ResetIsSound :=
  ⟨State.reset_timeSound, ⟨Nat.zero_le _, fun _ hr => (nomatch hr)⟩, State.reset_silent, by simp [State.reset, Member.Sound, Member.afterStart],
    State.reset_countsSound, State.reset_channelsSound, State.reset_correctionSound, State.reset_archiveSound, SetupStore.fresh_sound⟩

end Sys2Proof.Machine
end

section
/-! SUPPORT. The settings that an accepted record puts into force (R193 to R197, R131), field by field. -/

namespace Sys2Proof.Machine

/-! ### A judged field -/

section

variable {α : Type} {used ok : Bool} {v dflt : α}

theorem checked_value_of_ok (hused : used = true) (hok : ok = true) : (checked used ok v dflt).value = v := by
  simp [checked_value, hused, hok]

theorem checked_of_bad (hused : used = true) (hok : ok = false) :
    (checked used ok v dflt).value = dflt ∧ (checked used ok v dflt).replaced = true := by
  simp [checked_value, checked_replaced, hused, hok]

theorem checked_replaced_iff : (checked used ok v dflt).replaced = true ↔ used = true ∧ ok = false := by
  rw [checked_replaced]
  cases used <;> simp

end

theorem within_iff {lo hi v : Int} : within lo hi v = true ↔ lo ≤ v ∧ v ≤ hi := by simp [within]

theorem within_natCast_iff {lo hi n : Nat} : within lo hi n = true ↔ lo ≤ n ∧ n ≤ hi := by
  rw [within_iff]
  omega

theorem within_natCast_eq_false_iff {lo hi n : Nat} : within lo hi n = false ↔ n < lo ∨ hi < n := by
  rw [← Bool.not_eq_true, within_natCast_iff]
  omega

/-- A field from 1 to `hi`. -/
theorem checked_positive {used : Bool} (hused : used = true) (hi n dflt : Nat) :
    (1 ≤ n → n ≤ hi → (checked used (within (1 : Nat) hi n) n dflt).value = n) ∧
      (n = 0 ∨ hi < n →
        (checked used (within (1 : Nat) hi n) n dflt).value = dflt ∧ (checked used (within (1 : Nat) hi n) n dflt).replaced = true) :=
  ⟨fun hlo hhi => checked_value_of_ok hused (within_natCast_iff.mpr ⟨hlo, hhi⟩),
    fun hout => checked_of_bad hused (within_natCast_eq_false_iff.mpr (by omega))⟩

/-! ### Sources -/

/-- What makes a source field of a record be replaced: an undefined code, a station outside 1 to 8, or a LOCAL channel of another kind. -/
def SourceFault (kinds : Channel → ChannelKind) (needed : ChannelKind) (kind ref : Nat) : Prop :=
  2 < kind ∨ (kind = 2 ∧ (ref % 16 = 0 ∨ 8 < ref % 16)) ∨ (kind = 1 ∧ ∃ j : Channel, ref / 16 % 4 = j.val ∧ kinds j ≠ needed)

theorem sourceOf_local {ref : Nat} {j : Channel} (hj : ref / 16 % 4 = j.val) : sourceOf 1 ref = some (.localChannel j) := by
  simp [sourceOf, hj]

theorem sourceOf_peer {ref : Nat} {k : Station} {j : Channel} (hk : ref % 16 = k.val + 1) (hj : ref / 16 % 4 = j.val) :
    sourceOf 2 ref = some (.peer k j) := by
  simp only [sourceOf, hk, hj]
  simp

/-- A source names a peer, or nothing, with code 2. -/
theorem sourceOf_two_eq_none_iff (ref : Nat) : sourceOf 2 ref = none ↔ ref % 16 = 0 ∨ 8 < ref % 16 := by
  simp only [sourceOf]
  split
  next hzero => simp [hzero]
  next k hk =>
    rw [hk]
    split
    next hlt => simp; omega
    next hge => simp; omega

theorem sourceOk_eq_false_iff (kinds : Vector ChannelKind 4) (needed : ChannelKind) (kind ref : Nat) :
    sourceOk kinds needed (sourceOf kind ref) = false ↔ SourceFault (fun j => kinds[j]) needed kind ref := by
  unfold SourceFault
  match kind with
  | 0 => simp [sourceOf, sourceOk]
  | 1 =>
    obtain ⟨j, hj⟩ : ∃ j : Channel, ref / 16 % 4 = j.val := ⟨⟨ref / 16 % 4, Nat.mod_lt _ (by decide)⟩, rfl⟩
    rw [sourceOf_local hj]
    simp only [sourceOk, beq_eq_false_iff_ne, hj, Fin.val_inj]
    simp
  | 2 =>
    cases hsource : sourceOf 2 ref with
    | none => simp [sourceOk, (sourceOf_two_eq_none_iff ref).mp hsource]
    | some x =>
      have hpeer : sourceOk kinds needed (some x) = true := by
        simp only [sourceOf] at hsource
        split at hsource
        · cases hsource
        · split at hsource <;> cases hsource
          rfl
      have hnone := (sourceOf_two_eq_none_iff ref).not.mp (by simp [hsource])
      simp [hpeer, hnone]
  | kind + 3 => simp [sourceOf, sourceOk]

/-! ### Bin tables -/

/-- The table of a channel that validation accepts (R134, R195). -/
def TableGood (record : List Byte) (at' : Nat) : Prop :=
  1 ≤ uAt record (at' + 28) 1 ∧ uAt record (at' + 28) 1 ≤ 16 ∧
  (∀ r < uAt record (at' + 28) 1, (binRowAt record (at' + 29) r).inRange = true) ∧
  ∀ r, r + 1 < uAt record (at' + 28) 1 → (binRowAt record (at' + 29) r).edge < (binRowAt record (at' + 29) (r + 1)).edge

theorem edgesAscend_iff (rows : List BinRow) :
    edgesAscend rows = true ↔ ∀ r (h : r + 1 < rows.length), rows[r].edge < rows[r + 1].edge := by
  induction rows with
  | nil => simp [edgesAscend]
  | cons a rest ih =>
    cases rest with
    | nil => simp [edgesAscend]
    | cons b rest =>
      simp only [edgesAscend, Bool.and_eq_true, decide_eq_true_eq, ih]
      refine ⟨fun ⟨hab, hrest⟩ r hr => ?_, fun h => ⟨h 0 (by simp), fun r hr => h (r + 1) (by simpa using hr)⟩⟩
      cases r with
      | zero => exact hab
      | succ r => exact hrest r (by simpa using hr)

theorem tableGood_iff (record : List Byte) (i : Channel) :
    TableGood record (channelAt i) ↔
      (decide (1 ≤ uAt record (channelAt i + 28) 1) && decide (uAt record (channelAt i + 28) 1 ≤ 16) &&
        ((List.range (uAt record (channelAt i + 28) 1)).map (binRowAt record (channelAt i + 29))).all BinRow.inRange &&
        edgesAscend ((List.range (uAt record (channelAt i + 28) 1)).map (binRowAt record (channelAt i + 29)))) = true := by
  simp [TableGood, edgesAscend_iff, and_assoc]

/-! ### The record -/

/-- The kinds in force (R196). -/
def settledKinds (record : List Byte) : Vector ChannelKind 4 := Vector.ofFn fun i => (checkedKind record i).value

section

variable (record : List Byte) (i : Channel)

theorem acceptedSetup_channel : (acceptedSetup record).channels[i] = (checkedChannel record (settledKinds record) i).value := by
  simp [acceptedSetup, settledKinds]

theorem acceptedSetup_kind : (acceptedSetup record).channels[i].kind = (settledKinds record)[i] := by
  rw [acceptedSetup_channel]
  rfl

theorem acceptedSetup_kind_eq : (acceptedSetup record).channels[i].kind = (checkedKind record i).value := by
  rw [acceptedSetup_kind]
  simp [settledKinds]

theorem channel_exists_iff (P : Channel → Prop) : (∃ i, P i) ↔ P 0 ∨ P 1 ∨ P 2 ∨ P 3 := by
  simp only [Fin.exists_fin_succ, IsEmpty.exists_iff, or_false]
  exact .rfl

/-- The record is faulty exactly where a field of it was replaced (R197). -/
theorem acceptedSetup_recordFault_iff :
    (acceptedSetup record).recordFault = true ↔
      (checkedNumbering record).replaced = true ∨ 1 < uAt record 1 1 ∨ (uAt record 2 1 = 0 ∨ 48 < uAt record 2 1) ∨ 1 < uAt record 3 1 ∨
      1 < uAt record 890 1 ∨ (∃ i : Fin 2, (checkedInput record (987 + 2 * i.val)).replaced = true) ∨
      (checkedCheck record (settledKinds record)).replaced = true ∨
      (∃ i : Channel, (checkedKind record i).replaced = true) ∨
      ∃ i : Channel, (checkedChannel record (settledKinds record) i).replaced = true := by
  have hhours : within 1 48 (uAt record 2 1) = false ↔ uAt record 2 1 < 1 ∨ 48 < uAt record 2 1 :=
    within_natCast_eq_false_iff (lo := 1) (hi := 48)
  rw [Fin.exists_fin_two, channel_exists_iff, channel_exists_iff]
  simp only [acceptedSetup, Bool.or_eq_true, checked_replaced_iff, true_and, decide_eq_false_iff_not, not_le, hhours, Nat.lt_one_iff,
    or_assoc]
  exact .rfl

/-! ### Station settings -/

theorem checkedNumbering_chain (h : uAt record 0 1 / 128 % 2 = 0) : checkedNumbering record = { value := none, replaced := false } := by
  simp [checkedNumbering, h]

theorem checkedNumbering_fixed {k : Station} (h : uAt record 0 1 / 128 % 2 = 1) (hk : uAt record 0 1 % 16 = k.val + 1) :
    checkedNumbering record = { value := some k, replaced := false } := by
  simp [checkedNumbering, h, hk]

theorem checkedNumbering_bad (h : uAt record 0 1 / 128 % 2 = 1) (hk : uAt record 0 1 % 16 = 0 ∨ 8 < uAt record 0 1 % 16) :
    checkedNumbering record = { value := none, replaced := true } := by
  simp only [checkedNumbering, h, Nat.one_ne_zero, if_false]
  split
  next => rfl
  next k hk' => rw [dif_neg (by omega)]

theorem checkedNumbering_replaced_iff :
    (checkedNumbering record).replaced = true ↔
      uAt record 0 1 / 128 % 2 = 1 ∧ (uAt record 0 1 % 16 = 0 ∨ 8 < uAt record 0 1 % 16) := by
  refine ⟨fun h => ?_, fun ⟨hfixed, hbad⟩ => by rw [checkedNumbering_bad record hfixed hbad]⟩
  rcases Nat.mod_two_eq_zero_or_one (uAt record 0 1 / 128) with hchain | hfixed
  · simp [checkedNumbering_chain record hchain] at h
  · refine ⟨hfixed, ?_⟩
    by_contra hgood
    obtain ⟨k, hk⟩ : ∃ k : Station, uAt record 0 1 % 16 = k.val + 1 := ⟨⟨uAt record 0 1 % 16 - 1, by omega⟩, by simp only; omega⟩
    simp [checkedNumbering_fixed record hfixed hk] at h

/-- A field of one byte that holds 0 or 1, and counts as 1 out of range. -/
theorem checked_flag_true (n : Nat) : (checked true (decide (n ≤ 1)) (n == 1) true).value = decide (n ≠ 0) := by
  rcases n with _ | _ | n <;> simp [checked_value]

theorem checked_flag_false (n : Nat) : (checked true (decide (n ≤ 1)) (n == 1) false).value = decide (n = 1) := by
  rcases n with _ | _ | n <;> simp [checked_value]

theorem checkedKind_value_eq :
    (checkedKind record i).value =
      (match uAt record (channelAt i) 1 with
        | 0 => .fieldX | 1 => .fieldY | 2 => .fieldZ | 3 => .fieldF | 4 => .temp | _ => .off) := by
  unfold checkedKind
  match uAt record (channelAt i) 1 with
  | 0 | 1 | 2 | 3 | 4 | 5 => rfl
  | n + 6 => rfl

theorem checkedKind_replaced_iff : (checkedKind record i).replaced = true ↔ 5 < uAt record (channelAt i) 1 := by
  unfold checkedKind
  match uAt record (channelAt i) 1 with
  | 0 | 1 | 2 | 3 | 4 | 5 => simp [ChannelKind.ofCode]
  | n + 6 => simp [ChannelKind.ofCode]

theorem checkedInput_replaced_iff (at' : Nat) :
    (checkedInput record at').replaced = true ↔ 2 < uAt record at' 1 ∨ 1 < uAt record (at' + 1) 1 := by
  simp [checkedInput]

/-! ### The stage settings -/

theorem checkedStages_replaced_iff (mean : Bool) :
    (checkedStages record mean).replaced = true ↔
      (coefficientsAt record 923 32).sum ≠ 65536 ∨ (mean = false ∧ (coefficientsAt record 891 16).sum ≠ 65536) := by
  simp only [checkedStages, Bool.or_eq_true, Bool.and_eq_true, Bool.not_eq_true', decide_eq_true_eq]
  exact or_comm

/-! ### The field check -/

/-- What makes the field-check setup be replaced (R195). -/
def CheckFault : Prop :=
  SourceFault (fun j => (acceptedSetup record).channels[j].kind) .fieldF (uAt record 991 1) (uAt record 992 1) ∨
    sAt record 993 4 < -1000000 ∨ 1000000 < sAt record 993 4 ∨ 1000000 < uAt record 997 4 ∨ uAt record 1001 1 = 0

theorem sourceOk_settled (needed : ChannelKind) (kind ref : Nat) :
    sourceOk (settledKinds record) needed (sourceOf kind ref) = false ↔
      SourceFault (fun j => (acceptedSetup record).channels[j].kind) needed kind ref := by
  simp only [acceptedSetup_kind]
  exact sourceOk_eq_false_iff _ _ _ _

theorem checkedCheck_replaced_iff : (checkedCheck record (settledKinds record)).replaced = true ↔ CheckFault record := by
  have htolerance : within 0 1000000 (uAt record 997 4 : Nat) = false ↔ uAt record 997 4 < 0 ∨ 1000000 < uAt record 997 4 :=
    within_natCast_eq_false_iff (lo := 0) (hi := 1000000)
  have hexpected : within (-1000000) 1000000 (sAt record 993 4) = false ↔ sAt record 993 4 < -1000000 ∨ 1000000 < sAt record 993 4 := by
    rw [← Bool.not_eq_true, within_iff]
    omega
  simp only [checkedCheck, checked_replaced_iff, true_and, Bool.and_eq_false_iff, sourceOk_settled, htolerance, hexpected, CheckFault,
    decide_eq_false_iff_not, not_le, Nat.lt_one_iff, Nat.not_lt_zero, false_or, or_assoc]

theorem checkedCheck_of_fault (h : CheckFault record) : (checkedCheck record (settledKinds record)).value = Setup.halted.check :=
  (checked_of_bad rfl (checked_replaced_iff.mp ((checkedCheck_replaced_iff record).mpr h)).2).1

theorem checkedCheck_of_good (h : ¬CheckFault record) :
    (checkedCheck record (settledKinds record)).value =
      { reference := (sourceOf (uAt record 991 1) (uAt record 992 1)).getD .none, expected := sAt record 993 4,
        tolerance := (uAt record 997 4 : Nat), count := uAt record 1001 1 } := by
  refine checked_value_of_ok rfl ?_
  rw [← checkedCheck_replaced_iff] at h
  by_contra hbad
  exact h (checked_of_bad rfl (Bool.not_eq_true _ ▸ hbad)).2

end

end Sys2Proof.Machine
end

section
/-! SUPPORT. The channel setups that an accepted record puts into force, and the settings kept (R195, R196). -/

namespace Sys2Proof.Machine

section

variable {record : List Byte} {i : Channel} {o : Nat}

/-- A replaced field of a channel makes the record faulty. -/
theorem recordFault_of_channel (h : (checkedChannel record (settledKinds record) i).replaced = true) :
    (acceptedSetup record).recordFault = true := by
  rw [acceptedSetup_recordFault_iff]
  simp only [or_assoc]
  exact .inr (.inr (.inr (.inr (.inr (.inr (.inr (.inr (.inr ⟨i, h⟩))))))))

theorem acceptedSetup_field (hfield : (acceptedSetup record).channels[i].kind.isField = true) : (settledKinds record)[i].isField = true := by
  rwa [acceptedSetup_kind] at hfield

theorem checkedRows_replaced_iff (used : Bool) :
    (checkedRows record i used).replaced = true ↔ used = true ∧ ¬TableGood record (channelAt i) := by
  rw [tableGood_iff, Bool.not_eq_true]
  exact checked_replaced_iff

theorem checkedMode_ok_iff (mode g : Nat) : (mode == 0 || (mode == 1 && decide (2 ≤ g))) = false ↔ 1 < mode ∨ (mode = 1 ∧ g < 2) := by
  simp
  omega

theorem checkedMode_replaced_iff (used : Bool) :
    (checkedMode record i used).replaced = true ↔ used = true ∧
      (1 < uAt record (channelAt i + 23) 1 ∨ (uAt record (channelAt i + 23) 1 = 1 ∧ uAt record (channelAt i + 24) 1 < 2)) := by
  rw [← checkedMode_ok_iff]
  exact checked_replaced_iff

theorem checked_within_replaced {used : Bool} {lo hi n dflt : Nat}
    (h : (checked used (within lo hi n) n dflt).replaced = true) : used = true ∧ (n < lo ∨ hi < n) := by
  rwa [checked_replaced_iff, within_natCast_eq_false_iff] at h

theorem checked_positive_replaced {used : Bool} {hi n dflt : Nat}
    (h : (checked used (within (1 : Nat) hi n) n dflt).replaced = true) : used = true ∧ (n = 0 ∨ hi < n) := by
  simpa [Nat.lt_one_iff] using checked_within_replaced h

/-- What a channel's replaced fields say of the record. -/
theorem checkedChannel_replaced (ho : o = 6 + 221 * i.val) (h : (checkedChannel record (settledKinds record) i).replaced = true) :
      ((acceptedSetup record).channels[i].kind.isField = true ∧
        (uAt record (o + 1) 2 = 0 ∨ 1000 < uAt record (o + 1) 2 ∨
          SourceFault (fun j => (acceptedSetup record).channels[j].kind) .temp (uAt record (o + 19) 1) (uAt record (o + 20) 1) ∨
          2000 < uAt record (o + 21) 2 ∨ 1 < uAt record (o + 23) 1 ∨ (uAt record (o + 23) 1 = 1 ∧ uAt record (o + 24) 1 < 2) ∨
          uAt record (o + 25) 2 = 0 ∨ 600 < uAt record (o + 25) 2 ∨
          (acceptedSetup record).channels[i].rows.length ≤ uAt record (o + 27) 1 ∨ ¬TableGood record o)) ∨
      ((acceptedSetup record).channels[i].kind.isVector = true ∧
        (uAt record (o + 3) 4 = 0 ∨ 100000000 < uAt record (o + 3) 4 ∨ uAt record (o + 7) 4 = 0 ∨ 8388606 < uAt record (o + 7) 4)) := by
  obtain rfl : o = channelAt i := ho
  rw [acceptedSetup_kind, acceptedSetup_channel]
  simp only [checkedChannel, Bool.or_eq_true] at h
  obtain (((((((h | h) | h) | h) | h) | h) | h) | h) | h := h
  · obtain ⟨hfield, h⟩ := checked_positive_replaced (hi := 1000) h
    exact .inl ⟨hfield, by tauto⟩
  · obtain ⟨hvector, h⟩ := checked_positive_replaced (hi := 100000000) h
    exact .inr ⟨hvector, by tauto⟩
  · obtain ⟨hvector, h⟩ := checked_positive_replaced (hi := 8388606) h
    exact .inr ⟨hvector, by tauto⟩
  · rw [checked_replaced_iff, sourceOk_settled] at h
    exact .inl ⟨h.1, by tauto⟩
  · rw [checkedRows_replaced_iff] at h
    exact .inl ⟨h.1, by tauto⟩
  · obtain ⟨hfield, h⟩ := checked_within_replaced (lo := 0) (hi := 2000) h
    rw [Nat.lt_iff_add_one_le] at h
    exact .inl ⟨hfield, by simp at h; tauto⟩
  · rw [checkedMode_replaced_iff] at h
    exact .inl ⟨h.1, by tauto⟩
  · obtain ⟨hfield, h⟩ := checked_positive_replaced (hi := 600) h
    exact .inl ⟨hfield, by tauto⟩
  · rw [checked_replaced_iff, decide_eq_false_iff_not, not_lt] at h
    refine .inl ⟨h.1, ?_⟩
    obtain ⟨-, h⟩ := h
    exact .inr (.inr (.inr (.inr (.inr (.inr (.inr (.inr (.inl h))))))))

/-! ### The fields of a channel -/

/-- A field from 1 to `hi` in force: `x` is what validation left of the field `n`. -/
def PositiveField (used : Bool) (hi n dflt x : Nat) (fault : Prop) : Prop :=
  used = true → (1 ≤ n → n ≤ hi → x = n) ∧ (n = 0 ∨ hi < n → x = dflt ∧ fault)

theorem positiveField_of_checked {used : Bool} {hi n dflt : Nat} {fault : Prop}
    (hfault : (checked used (within (1 : Nat) hi n) n dflt).replaced = true → fault) :
    PositiveField used hi n dflt (checked used (within (1 : Nat) hi n) n dflt).value fault := fun hused =>
  ⟨(checked_positive hused hi n dflt).1, fun hout =>
    ⟨((checked_positive hused hi n dflt).2 hout).1, hfault ((checked_positive hused hi n dflt).2 hout).2⟩⟩

variable (record i)

theorem acceptedSetup_weight : PositiveField (acceptedSetup record).channels[i].kind.isField 1000 (uAt record (channelAt i + 1) 2) 1
    (acceptedSetup record).channels[i].weight ((acceptedSetup record).recordFault = true) := by
  rw [acceptedSetup_kind, acceptedSetup_channel]
  exact positiveField_of_checked fun h =>
    recordFault_of_channel (i := i) (by simp only [checkedChannel, Bool.or_eq_true]; exact .inl (.inl (.inl (.inl (.inl (.inl (.inl (.inl h))))))))

theorem acceptedSetup_biasUnit : PositiveField (acceptedSetup record).channels[i].kind.isVector 100000000 (uAt record (channelAt i + 3) 4)
    1000000 (acceptedSetup record).channels[i].biasUnit ((acceptedSetup record).recordFault = true) := by
  rw [acceptedSetup_kind, acceptedSetup_channel]
  exact positiveField_of_checked fun h =>
    recordFault_of_channel (i := i) (by simp only [checkedChannel, Bool.or_eq_true]; exact .inl (.inl (.inl (.inl (.inl (.inl (.inl (.inr h))))))))

theorem acceptedSetup_threshold : PositiveField (acceptedSetup record).channels[i].kind.isVector 8388606 (uAt record (channelAt i + 7) 4)
    4194304 (acceptedSetup record).channels[i].threshold ((acceptedSetup record).recordFault = true) := by
  rw [acceptedSetup_kind, acceptedSetup_channel]
  exact positiveField_of_checked fun h =>
    recordFault_of_channel (i := i) (by simp only [checkedChannel, Bool.or_eq_true]; exact .inl (.inl (.inl (.inl (.inl (.inl (.inr h)))))))

theorem acceptedSetup_staleLimit : PositiveField (acceptedSetup record).channels[i].kind.isField 600 (uAt record (channelAt i + 25) 2) 60
    (acceptedSetup record).channels[i].staleLimit ((acceptedSetup record).recordFault = true) := by
  rw [acceptedSetup_kind, acceptedSetup_channel]
  exact positiveField_of_checked fun h =>
    recordFault_of_channel (i := i) (by simp only [checkedChannel, Bool.or_eq_true]; exact .inl (.inr h))

variable {record i} (hfield : (acceptedSetup record).channels[i].kind.isField = true)

include hfield

theorem acceptedSetup_hysteresis :
    (uAt record (channelAt i + 21) 2 ≤ 2000 → (acceptedSetup record).channels[i].hysteresis = uAt record (channelAt i + 21) 2) ∧
    (2000 < uAt record (channelAt i + 21) 2 →
      (acceptedSetup record).channels[i].hysteresis = 0 ∧ (acceptedSetup record).recordFault = true) := by
  have hused := acceptedSetup_field hfield
  rw [acceptedSetup_channel]
  refine ⟨fun h => checked_value_of_ok hused (within_natCast_iff (lo := 0) (hi := 2000).mpr ⟨Nat.zero_le _, h⟩), fun h => ?_⟩
  obtain ⟨hvalue, hreplaced⟩ := checked_of_bad (v := uAt record (channelAt i + 21) 2) (dflt := 0) hused
    (within_natCast_eq_false_iff (lo := 0) (hi := 2000).mpr (.inr h))
  exact ⟨hvalue, recordFault_of_channel (i := i) (by
    simp only [checkedChannel, Bool.or_eq_true]
    exact .inl (.inl (.inl (.inr hreplaced))))⟩

theorem acceptedSetup_startBin :
    (uAt record (channelAt i + 27) 1 < (acceptedSetup record).channels[i].rows.length →
      (acceptedSetup record).channels[i].startBin = uAt record (channelAt i + 27) 1) ∧
    ((acceptedSetup record).channels[i].rows.length ≤ uAt record (channelAt i + 27) 1 →
      (acceptedSetup record).channels[i].startBin = 0 ∧ (acceptedSetup record).recordFault = true) := by
  have hused := acceptedSetup_field hfield
  rw [acceptedSetup_channel]
  refine ⟨fun h => checked_value_of_ok hused (decide_eq_true h), fun h => ?_⟩
  obtain ⟨hvalue, hreplaced⟩ := checked_of_bad (v := uAt record (channelAt i + 27) 1) (dflt := 0) hused (decide_eq_false (not_lt.mpr h))
  exact ⟨hvalue, recordFault_of_channel (i := i) (by
    simp only [checkedChannel, Bool.or_eq_true]
    exact .inr hreplaced)⟩

/-- Rows of the bin table, whole or the default row. -/
theorem acceptedSetup_rows :
    (TableGood record (channelAt i) → (acceptedSetup record).channels[i].rows =
      (List.range (uAt record (channelAt i + 28) 1)).map (binRowAt record (channelAt i + 29))) ∧
    (¬TableGood record (channelAt i) →
      (acceptedSetup record).channels[i].rows = [BinRow.default] ∧ (acceptedSetup record).recordFault = true) := by
  have hused := acceptedSetup_field hfield
  rw [acceptedSetup_channel]
  refine ⟨fun hgood => checked_value_of_ok hused ((tableGood_iff record i).mp hgood), fun hbad => ?_⟩
  have hreplaced := (checkedRows_replaced_iff (settledKinds record)[i].isField).mpr ⟨hused, hbad⟩
  rw [tableGood_iff, Bool.not_eq_true] at hbad
  exact ⟨(checked_of_bad hused hbad).1, recordFault_of_channel (i := i) (by
    simp only [checkedChannel, Bool.or_eq_true]
    exact .inl (.inl (.inl (.inl (.inr hreplaced)))))⟩

theorem acceptedSetup_glideLength :
    (uAt record (channelAt i + 23) 1 = 0 → (acceptedSetup record).channels[i].glideLength = none) ∧
    (uAt record (channelAt i + 23) 1 = 1 → 2 ≤ uAt record (channelAt i + 24) 1 →
      (acceptedSetup record).channels[i].glideLength = some (uAt record (channelAt i + 24) 1)) ∧
    (1 < uAt record (channelAt i + 23) 1 ∨ (uAt record (channelAt i + 23) 1 = 1 ∧ uAt record (channelAt i + 24) 1 < 2) →
      (acceptedSetup record).channels[i].glideLength = none ∧ (acceptedSetup record).recordFault = true) := by
  have hused := acceptedSetup_field hfield
  rw [acceptedSetup_channel]
  refine ⟨fun h => ?_, fun h hg => ?_, fun hbad => ?_⟩
  · exact (checked_value_of_ok hused (by simp [h])).trans (by simp [h])
  · exact (checked_value_of_ok hused (by simp [h, hg])).trans (by simp [h])
  · have hreplaced := (checkedMode_replaced_iff (settledKinds record)[i].isField).mpr ⟨hused, hbad⟩
    rw [← checkedMode_ok_iff] at hbad
    exact ⟨(checked_of_bad hused hbad).1, recordFault_of_channel (i := i) (by
      simp only [checkedChannel, Bool.or_eq_true]
      exact .inl (.inl (.inr hreplaced)))⟩

/-- The source in force: the one given, unless it is faulty. -/
theorem acceptedSetup_source :
    (¬SourceFault (fun j => (acceptedSetup record).channels[j].kind) .temp (uAt record (channelAt i + 19) 1) (uAt record (channelAt i + 20) 1) →
      (acceptedSetup record).channels[i].source = (sourceOf (uAt record (channelAt i + 19) 1) (uAt record (channelAt i + 20) 1)).getD .none) ∧
    (SourceFault (fun j => (acceptedSetup record).channels[j].kind) .temp (uAt record (channelAt i + 19) 1) (uAt record (channelAt i + 20) 1) →
      (acceptedSetup record).channels[i].source = .none ∧ (acceptedSetup record).recordFault = true) := by
  have hused := acceptedSetup_field hfield
  rw [acceptedSetup_channel, ← sourceOk_settled]
  refine ⟨fun h => checked_value_of_ok hused (Bool.not_eq_false _ ▸ h), fun h => ?_⟩
  obtain ⟨hvalue, hreplaced⟩ := checked_of_bad (dflt := Source.none)
    (v := (sourceOf (uAt record (channelAt i + 19) 1) (uAt record (channelAt i + 20) 1)).getD .none) hused h
  exact ⟨hvalue, recordFault_of_channel (i := i) (by
    simp only [checkedChannel, Bool.or_eq_true]
    exact .inl (.inl (.inl (.inl (.inl (.inr hreplaced))))))⟩

end

end Sys2Proof.Machine
end

section
/-! SUPPORT. The settings and the stored record that a command leaves (R193 to R199), and an accepted record's settings together. -/

namespace Sys2Proof.Machine

/-! ### Sources, by their codes -/

theorem SourceFault.none (kinds : Channel → ChannelKind) (needed : ChannelKind) (ref : Nat) : ¬SourceFault kinds needed 0 ref := by
  simp [SourceFault]

theorem sourceFault_local_iff {kinds : Channel → ChannelKind} {needed : ChannelKind} {ref : Nat} {j : Channel} (hj : ref / 16 % 4 = j.val) :
    SourceFault kinds needed 1 ref ↔ kinds j ≠ needed := by
  simp only [SourceFault, hj, Fin.val_inj]
  simp

theorem SourceFault.peer (kinds : Channel → ChannelKind) (needed : ChannelKind) {ref : Nat} {k : Station} (hk : ref % 16 = k.val + 1) :
    ¬SourceFault kinds needed 2 ref := by
  simp [SourceFault, hk]

theorem sourceOf_eq_local {kind ref : Nat} {j : Channel} (h : (sourceOf kind ref).getD .none = .localChannel j) :
    kind = 1 ∧ ref / 16 % 4 = j.val := by
  match kind with
  | 0 => cases h
  | 1 =>
    cases h
    exact ⟨rfl, rfl⟩
  | 2 =>
    simp only [sourceOf] at h
    split at h
    · cases h
    · split at h <;> cases h
  | kind + 3 => cases h

/-- A source in force, by the codes of its field: `x` is what validation left of it. -/
theorem source_cases {kinds : Channel → ChannelKind} {needed : ChannelKind} {kind ref : Nat} {x : Source} {fault : Prop}
    (hgood : ¬SourceFault kinds needed kind ref → x = (sourceOf kind ref).getD .none)
    (hbad : SourceFault kinds needed kind ref → x = .none ∧ fault) :
    (kind = 0 → x = .none) ∧
    (∀ j : Channel, kind = 1 → ref / 16 % 4 = j.val → kinds j = needed → x = .localChannel j) ∧
    (∀ j : Channel, x = .localChannel j → kinds j = needed) ∧
    (∀ j : Channel, kind = 1 → ref / 16 % 4 = j.val → kinds j ≠ needed → x = .none ∧ fault) ∧
    (2 < kind ∨ (kind = 2 ∧ (ref % 16 = 0 ∨ 8 < ref % 16)) → x = .none ∧ fault) ∧
    (∀ (k : Station) (j : Channel), kind = 2 → ref % 16 = k.val + 1 → ref / 16 % 4 = j.val → x = .peer k j) := by
  refine ⟨?_, ?_, fun j hx => ?_, ?_, fun h => hbad (h.imp_right .inl), ?_⟩
  · rintro rfl
    exact hgood (SourceFault.none kinds needed ref)
  · rintro j rfl hj hkind
    exact (hgood (mt (sourceFault_local_iff hj).mp (not_not_intro hkind))).trans (by rw [sourceOf_local hj]; rfl)
  · by_contra hkind
    by_cases hfault : SourceFault kinds needed kind ref
    · rw [(hbad hfault).1] at hx
      cases hx
    · rw [hgood hfault] at hx
      obtain ⟨rfl, hj⟩ := sourceOf_eq_local hx
      exact hfault ((sourceFault_local_iff hj).mpr hkind)
  · rintro j rfl hj hkind
    exact hbad ((sourceFault_local_iff hj).mpr hkind)
  · rintro k j rfl hk hj
    exact (hgood (SourceFault.peer kinds needed hk)).trans (by rw [sourceOf_peer hk hj]; rfl)

/-! ### What a command leaves of the store and the settings -/

/-- The stored record changes only by a completed write (R198, R199). -/
def StoreKept (c : Instr) (s t : State) : Prop :=
  t.store.stored = s.store.stored ∨ (c = .setupWriteComplete ∧ s.phase = .running ∧ s.store.writing = some t.store.stored)

theorem State.beginStart_stored (s : State) : s.beginStart.store.stored = s.store.stored := by
  unfold State.beginStart
  split <;> rfl

theorem exec_storeKept (c : Instr) (s : State) : Answers (StoreKept c s) (exec c s) := by
  have hkept {t : State} (h : t.store.stored = s.store.stored) : StoreKept c s t := .inl h
  cases c with
  | setupWriteComplete =>
    dsimp only [exec]
    refine atWork_answers (hkept rfl) fun hrunning => ?_
    split
    next record hwriting => exact .inr ⟨rfl, hrunning, hwriting⟩
    next => exact hkept rfl
  | programSetup enable bits =>
    dsimp only [exec]
    refine execute_answers (hkept rfl) (fun _ => hkept rfl) fun _ _ => ?_
    unfold State.programSetup
    split
    · exact hkept rfl
    · split <;> exact hkept rfl
  | powerOn => exact answers_next (hkept (State.beginStart_stored _))
  | powerLoss => exact answers_next (hkept rfl)
  | resetAssert => exact answers_ite (fun _ => hkept rfl) fun _ => hkept (State.beginStart_stored _)
  | resetRelease => exact answers_ite (fun _ => hkept (State.beginStart_stored _)) fun _ => hkept rfl
  | restartStart =>
    refine atWork_answers (hkept rfl) fun _ => ?_
    split
    · exact hkept (State.beginStart_stored s)
    · exact hkept rfl
  | startComplete x => exact answers_ite (fun _ => hkept (by simp [State.completeStart])) fun _ => hkept rfl
  | _ =>
    obtain ⟨t, ht, hw⟩ := exec_unwritten _ s
    exact ⟨t, ht, hkept (by rw [hw.store (by simp [commandWrites, stepBlocks])])⟩

theorem exec_setupKept {c : Instr} (s : State) (hon : c ≠ .powerOn) (hloss : c ≠ .powerLoss) (hassert : c ≠ .resetAssert)
    (hrelease : c ≠ .resetRelease) (hrestart : c ≠ .restartStart) : Answers (fun t => t.setup = s.setup) (exec c s) := by
  cases c with
  | powerOn | powerLoss | resetAssert | resetRelease | restartStart => contradiction
  | startComplete x => exact answers_ite (fun _ => by simp [State.completeStart]) fun _ => rfl
  | _ =>
    obtain ⟨t, ht, hw⟩ := exec_unwritten _ s
    exact ⟨t, ht, hw.setup (by simp [commandWrites, stepBlocks])⟩

/-! ### The settings together -/

section

variable (record : List Byte) (i : Channel)

theorem binRowAt_channelAt (r : Nat) :
    binRowAt record (channelAt i + 29) r =
      { edge := sAt record (35 + 221 * i.val + 12 * r) 4, offset := sAt record (39 + 221 * i.val + 12 * r) 4,
        scale := sAt record (43 + 221 * i.val + 12 * r) 4 } := by
  have hat (k : Nat) : channelAt i + 29 + 12 * r + k = 35 + k + 221 * i.val + 12 * r := by
    unfold channelAt
    omega
  unfold binRowAt
  rw [hat 4, hat 8, show channelAt i + 29 + 12 * r = 35 + 221 * i.val + 12 * r from hat 0]

theorem acceptedSetup_input (i : Fin 2) : (acceptedSetup record).inputs[i] = (checkedInput record (987 + 2 * i.val)).value := by
  revert i
  exact Fin.forall_fin_two.mpr ⟨rfl, rfl⟩

theorem checkedInput_function (at' : Nat) :
    (checkedInput record at').value.function = (match uAt record at' 1 with | 1 => .attend | 2 => .marker | _ => .off) := by
  simp only [checkedInput]
  match uAt record at' 1 with
  | 0 | 1 | 2 => rfl
  | n + 3 => rfl

theorem checkedStages_mean (mean : Bool) :
    (checkedStages record mean).value.mean = decide (mean = true ∨ (coefficientsAt record 891 16).sum ≠ 65536) := by
  cases mean <;> simp [checkedStages]

theorem checkedStages_table2 (mean : Bool) :
    (checkedStages record mean).value.table2 =
      if (coefficientsAt record 923 32).sum = 65536 then coefficientsAt record 923 32 else List.replicate 32 2048 := by
  simp [checkedStages]

end

/-- Settles O3: an accepted record's settings are its fields, each replaced by its default where it is out of range, and no command but a
start takes settings or stores another record. -/
theorem settingsAreValidatedAndKept : Obligations.SettingsAreValidatedAndKept := by
  refine ⟨fun c s t ht => ⟨(exec_storeKept c s).of_eq ht, fun hon hloss hassert hrelease hrestart =>
    (exec_setupKept s hon hloss hassert hrelease hrestart).of_eq (P := fun t => t.setup = s.setup) ht⟩, ?_⟩
  rintro record _ _ rfl rfl
  extract_lets rowAt tableGood sourceFault checkFault
  have hfault := acceptedSetup_recordFault_iff record
  have hrow (i : Channel) : binRowAt record (channelAt i + 29) = rowAt i := funext (binRowAt_channelAt record i)
  have hcount (i : Channel) : channelAt i + 28 = 34 + 221 * i.val := by
    unfold channelAt
    omega
  have htable (i : Channel) : tableGood i ↔ TableGood record (channelAt i) := by
    simp only [tableGood, TableGood, BinRow.inRange, Bool.and_eq_true, within_iff, and_assoc, hrow, hcount]
    exact .rfl
  refine ⟨rfl, rfl, ?numberChain, ?number, ?numberBad, ?reference, ?referenceBad, ?hours, ?hoursBad, ?policy, ?policyBad, ?kinds, ?fields,
    ?vectors, ?temps, ?stages, ?modeBad, ?inputs, ?checkLocal, ?checkBad, ?checkCount, ?check, ?faults⟩
  case numberChain => exact fun h => congrArg Checked.value (checkedNumbering_chain record h)
  case number => exact fun k h hk => congrArg Checked.value (checkedNumbering_fixed record h hk)
  case numberBad =>
    intro h hk
    have hbad := checkedNumbering_bad record h hk
    exact ⟨congrArg Checked.value hbad, hfault.mpr (.inl (congrArg Checked.replaced hbad))⟩
  case referenceBad => exact fun h => hfault.mpr (.inr (.inl h))
  case hoursBad =>
    refine fun h => ⟨((checked_positive rfl 48 (uAt record 2 1) 4).2 h).1, hfault.mpr (.inr (.inr (.inl h)))⟩
  case hours => exact (checked_positive rfl 48 (uAt record 2 1) 4).1
  case policyBad => exact fun h => hfault.mpr (.inr (.inr (.inr (.inl h))))
  case modeBad => exact fun h => hfault.mpr (.inr (.inr (.inr (.inr (.inl h)))))
  case reference => exact checked_flag_true _
  case policy => exact checked_flag_false _
  case kinds =>
    exact fun i => ⟨(acceptedSetup_kind_eq record i).trans (checkedKind_value_eq record i), fun h =>
      hfault.mpr (.inr (.inr (.inr (.inr (.inr (.inr (.inr (.inl ⟨i, (checkedKind_replaced_iff record i).mpr h⟩))))))))⟩
  case fields =>
    rintro i _ rfl hfield
    obtain ⟨hweight, hweightBad⟩ := acceptedSetup_weight record i hfield
    obtain ⟨hhysteresis, hhysteresisBad⟩ := acceptedSetup_hysteresis hfield
    obtain ⟨hstep, hglide, hglideBad⟩ := acceptedSetup_glideLength hfield
    obtain ⟨hstale, hstaleBad⟩ := acceptedSetup_staleLimit record i hfield
    obtain ⟨hstart, hstartBad⟩ := acceptedSetup_startBin hfield
    obtain ⟨hrows, hrowsBad⟩ := acceptedSetup_rows hfield
    have hsource := source_cases (acceptedSetup_source hfield).1 (acceptedSetup_source hfield).2
    rw [← htable i] at hrows hrowsBad
    rw [hrow i] at hrows
    exact ⟨hweight, hweightBad, hhysteresis, hhysteresisBad, hstep, hglide, hglideBad, hstale, hstaleBad, hstart, hstartBad, hrows, hrowsBad,
      hsource⟩
  case vectors =>
    rintro i _ rfl hvector
    obtain ⟨hunit, hunitBad⟩ := acceptedSetup_biasUnit record i hvector
    obtain ⟨hthreshold, hthresholdBad⟩ := acceptedSetup_threshold record i hvector
    exact ⟨hunit, hunitBad, hthreshold, hthresholdBad⟩
  case temps =>
    intro i _
    rw [acceptedSetup_channel, show 17 + 221 * i.val = channelAt i + 11 by unfold channelAt; omega,
      show 21 + 221 * i.val = channelAt i + 15 by unfold channelAt; omega]
    exact ⟨rfl, rfl⟩
  case stages =>
    refine ⟨_, rfl, rfl, ?_, fun h => ?_, fun h => ?_, ?_⟩
    · exact (checkedStages_mean record _).trans (decide_eq_decide.mpr (by rw [checked_flag_true, decide_eq_true_eq]; exact .rfl))
    · exact (checkedStages_table2 record _).trans (if_pos h)
    · exact (checkedStages_table2 record _).trans (if_neg h)
    · refine (checkedStages_replaced_iff record _).trans ?_
      rw [checked_flag_true, decide_eq_false_iff_not, not_not]
      exact .rfl
  case inputs =>
    intro i
    rw [acceptedSetup_input, show 988 + 2 * i.val = 987 + 2 * i.val + 1 by omega]
    exact ⟨checkedInput_function record _, rfl, fun h =>
      hfault.mpr (.inr (.inr (.inr (.inr (.inr (.inl ⟨i, (checkedInput_replaced_iff record _).mpr h⟩))))))⟩
  case checkBad =>
    exact fun h => ⟨congrArg CheckSetup.reference (checkedCheck_of_fault record h),
      hfault.mpr (.inr (.inr (.inr (.inr (.inr (.inr (.inl ((checkedCheck_replaced_iff record).mpr h))))))))⟩
  case checkLocal =>
    intro j hj
    by_cases h : CheckFault record
    · rw [show (acceptedSetup record).check = _ from checkedCheck_of_fault record h] at hj
      cases hj
    · rw [show (acceptedSetup record).check = _ from checkedCheck_of_good record h] at hj
      obtain ⟨-, -, hlocal, -⟩ := source_cases (fault := False) (fun _ => rfl) fun hsource => (h (.inl hsource)).elim
      exact hlocal j hj
  case checkCount =>
    by_cases h : CheckFault record
    · rw [show (acceptedSetup record).check = _ from checkedCheck_of_fault record h]
      decide
    · rw [show (acceptedSetup record).check = _ from checkedCheck_of_good record h]
      exact Nat.one_le_iff_ne_zero.mpr fun hzero => h (.inr (.inr (.inr (.inr hzero))))
  case check =>
    intro h
    rw [show (acceptedSetup record).check = _ from checkedCheck_of_good record h]
    obtain ⟨hnone, -, -, -, -, hpeer⟩ := source_cases (fault := False) (fun _ => rfl) fun hsource => (h (.inl hsource)).elim
    refine ⟨rfl, rfl, rfl, hnone, fun j hkind hj => ?_, hpeer⟩
    rw [show uAt record 991 1 = 1 from hkind, sourceOf_local (ref := uAt record 992 1) hj]
    rfl
  case faults =>
    intro h
    obtain h | h | h | h | h | ⟨i, h⟩ | h | ⟨i, h⟩ | ⟨i, h⟩ := hfault.mp h
    · exact .inl ((checkedNumbering_replaced_iff record).mp h)
    · exact .inr (.inl h)
    · exact .inr (.inr (h.elim .inl (.inr ∘ .inl)))
    · exact .inr (.inr (.inr (.inr (.inl h))))
    · exact .inr (.inr (.inr (.inr (.inr (.inl h)))))
    · rw [checkedInput_replaced_iff, show 987 + 2 * i.val + 1 = 988 + 2 * i.val by omega] at h
      exact .inr (.inr (.inr (.inr (.inr (.inr (.inl ⟨i, h⟩))))))
    · exact .inr (.inr (.inr (.inr (.inr (.inr (.inr (.inl ((checkedCheck_replaced_iff record).mp h))))))))
    · exact .inr (.inr (.inr (.inr (.inr (.inr (.inr (.inr ⟨i, _, rfl, .inl ((checkedKind_replaced_iff record i).mp h)⟩)))))))
    · have hreplaced := checkedChannel_replaced (o := channelAt i) rfl h
      rw [← htable i] at hreplaced
      exact .inr (.inr (.inr (.inr (.inr (.inr (.inr (.inr ⟨i, _, rfl, .inr hreplaced⟩)))))))

end Sys2Proof.Machine
end

section
/-! SUPPORT. The commands of the readout port (R176 to R179, R187): what a transaction that awaits a command makes of its argument bits. -/

namespace Sys2Proof.Machine

section

variable {s : State} {c : PortCommand} {bits args : List Bool} {body : List Byte → State → State}

/-- What the argument bits so far make of a command that the transaction awaits: it awaits more of them, answers BUSY, or is carried out. -/
theorem State.Takes.execute_eq (h : s.Takes c bits args) :
    s.execute c bits body = .next (
      if args.length < 8 * c.argCount then s.setPort { s.port with trans := .arguments, command := some c, args := args }
      else if s.port.hold = .none then
        body (bytesOfPortBits (args.take (8 * c.argCount)))
          (s.setPort (({ s.port with args := args.take (8 * c.argCount) } : Port).executing c))
      else s.setPort { ({ s.port with args := args.take (8 * c.argCount) } : Port).executing c with lastResult := .busy }) := by
  obtain ⟨hrunning, hawaits⟩ := h
  obtain ⟨before, hport, rfl⟩ : ∃ before, s.port.awaits c = some { s.port with trans := .arguments, command := some c, args := before } ∧
      args = before ++ bits := by
    obtain ⟨hcommand, rfl⟩ | ⟨harguments, htaken, rfl⟩ := hawaits
    · exact ⟨[], Port.awaits_command _ _ hcommand, rfl⟩
    · refine ⟨s.port.args, ?_, rfl⟩
      rw [Port.awaits, harguments, htaken]
      simp [← harguments, ← htaken]
  simp only [State.execute, State.running, hrunning, decide_true, if_true, hport]
  rfl

theorem State.Takes.execute_whole (h : s.Takes c bits args) (hlength : 8 * c.argCount ≤ args.length) (hhold : s.port.hold = .none) :
    s.execute c bits body = .next (body (bytesOfPortBits (args.take (8 * c.argCount)))
      (s.setPort (({ s.port with args := args.take (8 * c.argCount) } : Port).executing c))) := by
  rw [h.execute_eq, if_neg (Nat.not_lt.mpr hlength), if_pos hhold]

theorem State.Takes.execute_held (h : s.Takes c bits args) (hlength : 8 * c.argCount ≤ args.length) (hhold : s.port.hold ≠ .none) :
    s.execute c bits body =
      .next (s.setPort { ({ s.port with args := args.take (8 * c.argCount) } : Port).executing c with lastResult := .busy }) := by
  rw [h.execute_eq, if_neg (Nat.not_lt.mpr hlength), if_neg hhold]

theorem State.Takes.execute_short (h : s.Takes c bits args) (hlength : args.length < 8 * c.argCount) :
    s.execute c bits body = .next (s.setPort { s.port with trans := .arguments, command := some c, args := args }) := by
  rw [h.execute_eq, if_pos hlength]

/-- A transaction in COMMAND awaits every command. -/
theorem State.takes_of_command (hrunning : s.phase = .running) (hcommand : s.port.trans = .command) (c : PortCommand) (bits : List Bool) :
    s.Takes c bits bits := ⟨hrunning, .inl ⟨hcommand, rfl⟩⟩

end

/-! ### SEEK and RELEASE (R169, R171) -/

/-- Settles O43: SEEK and RELEASE act by where their argument lies against the pointers. -/
theorem seekAndReleaseActByCases : Obligations.SeekAndReleaseActByCases := by
  intro s bits args x hhold hlength hx
  refine ⟨fun h => ?_, fun h => ?_⟩
  · dsimp only [exec, execSeek]
    rw [h.execute_whole hlength hhold, show 8 * PortCommand.argCount .seek = 32 from rfl, ← hx]
    refine ⟨_, rfl, ?_⟩
    dsimp only
    split
    next hlow => exact ⟨rfl, fun _ => ⟨rfl, rfl⟩, fun hle => absurd hlow hle.not_gt, fun hle => absurd hlow hle.not_gt, rfl, rfl⟩
    next hlow =>
      split
      next hhigh => exact ⟨rfl, fun hlt => absurd hlt hlow, fun _ hle => absurd hhigh hle.not_gt, fun _ _ => ⟨rfl, rfl⟩, rfl, rfl⟩
      next hhigh => exact ⟨rfl, fun hlt => absurd hlt hlow, fun _ _ => ⟨rfl, rfl⟩, fun _ hlt => absurd hlt hhigh, rfl, rfl⟩
  · dsimp only [exec, execRelease]
    rw [h.execute_whole hlength hhold, show 8 * PortCommand.argCount .release = 32 from rfl, ← hx]
    refine ⟨_, rfl, ?_⟩
    dsimp only
    split
    next hhigh => exact ⟨rfl, fun _ => ⟨rfl, rfl⟩, fun hle => absurd hhigh hle.not_gt, fun hle => absurd hhigh hle.not_gt, rfl, rfl, rfl⟩
    next hhigh =>
      split
      next hreleased => exact ⟨rfl, fun hlt => absurd hlt hhigh, fun _ _ => ⟨rfl, rfl⟩, fun _ hlt => absurd hreleased hlt.not_ge, rfl, rfl, rfl⟩
      next hreleased => exact ⟨rfl, fun hlt => absurd hlt hhigh, fun _ hle => absurd hle hreleased, fun _ _ => ⟨rfl, rfl⟩, rfl, rfl, rfl⟩

/-! ### Transactions (R176 to R179) -/

theorem portBits_eq (b : Byte) : portBits b = (List.range 8).map fun j => b.getLsbD (7 - j) := by
  revert b
  decide

theorem namesCommand_eq (code : Byte) : namesCommand code = (PortCommand.ofByte code).isSome := by
  revert code
  decide

/-- Settles O45: a transaction begins, awaits its command and arguments, and ends. -/
theorem transactionsBeginAndEnd : Obligations.TransactionsBeginAndEnd := by
  refine ⟨fun s hrunning => ⟨fun hhigh => ?_, fun code hunknown hcommand => ?_, fun edges => ?_⟩,
    fun s row c count bits args hrow h hshort => ?_, fun bytes => ?_, fun code => ⟨rfl, namesCommand_eq code⟩⟩
  · simp [exec, execTransactionBegin, hhigh, State.running, hrunning]
  · have hnone : PortCommand.ofByte code = none := by simpa [namesCommand_eq] using hunknown
    refine (atWork_running s _ hrunning).trans ?_
    simp [hcommand, hnone, Port.takeByte]
  · have hcuts : s.port.cutsShort edges = true ↔ (s.port.trans = .command ∧ 0 < edges) ∨ s.port.trans = .arguments := by
      unfold Port.cutsShort
      cases s.port.trans <;> simp
    simp only [exec, execTransactionEnd, State.running, hrunning, decide_true, if_true, hcuts]
  · obtain ⟨rfl, rfl, rfl⟩ | ⟨rfl, rfl, rfl⟩ | ⟨rfl, rfl, rfl⟩ | ⟨rfl, rfl, rfl⟩ | ⟨rfl, rfl, rfl⟩ | ⟨enable, rfl, rfl, rfl⟩ := hrow
    all_goals
      dsimp only [exec]
      exact h.execute_short hshort
  · rw [← funext portBits_eq]
    exact bytesOfPortBits_flatMap bytes

/-! ### Holds (R187) -/

/-- Without an image nothing is clocked out but 0x00. -/
theorem State.clock_image_none {s : State} (h : s.port.image = none) (n : Nat) : (State.clock n s).port.image = none := by
  induction n generalizing s with
  | zero => exact h
  | succ n ih =>
    refine ih ?_
    have hport : (s.port.clockByte s.retention.oldestKept).image = none := by
      simp only [Port.clockByte]
      split
      · exact h
      · split
        · exact h
        · split <;> simp [h]
    unfold State.clockByte State.due
    rw [if_neg (by simp [hport])]
    exact hport

theorem State.dataOut_of_image_none {s : State} (h : s.port.image = none) (edges : Nat) (bit : Bool) (hbit : s.dataOut edges = some bit) :
    bit = false := by
  have hbyte : (State.clock (edges / 8) s).outByte = 0 := by simp [State.outByte, State.clock_image_none h]
  unfold State.dataOut at hbit
  rw [hbyte] at hbit
  split at hbit
  · rw [portBits_getD _ _ (Nat.mod_lt _ (by decide))] at hbit
    simpa using hbit.symm
  · cases hbit

/-- What a port hold makes of a command that the transaction awaits. -/
theorem State.Takes.held_busy {s : State} {c : PortCommand} {bits : List Bool} {body : List Byte → State → State} (h : s.Takes c bits bits)
    (hlength : 8 * c.argCount ≤ bits.length) (hhold : s.port.hold ≠ .none) :
    ∃ t, s.execute c bits body = .next t ∧ t = s.setPort t.port ∧
      t.port.lastResult = .busy ∧ t.port.image = none ∧ t.port.hold = s.port.hold ∧ t.port.cursor = s.port.cursor ∧
      t.port.notices = s.port.notices ∧ (∀ edges bit, t.dataOut edges = some bit → bit = false) :=
  ⟨_, h.execute_held hlength hhold, rfl, rfl, rfl, rfl, rfl, rfl, State.dataOut_of_image_none rfl⟩

/-- Settles O46: while a hold stands every command is answered BUSY and changes nothing else. -/
theorem holdAnswersBusy : Obligations.HoldAnswersBusy := by
  intro c s hrunning hcommand hhold hc
  obtain hc | ⟨bits, hlength, hc⟩ | ⟨bits, hlength, rfl⟩ | ⟨bits, hlength, rfl⟩ | ⟨enable, bits, rfl, hlength⟩ := hc
  · simp only [List.mem_cons, List.not_mem_nil, or_false] at hc
    obtain rfl | rfl | rfl | rfl | rfl | rfl | rfl | rfl | rfl := hc
    all_goals
      dsimp only [exec]
      exact (State.takes_of_command hrunning hcommand _ []).held_busy (Nat.zero_le _) hhold
  · obtain rfl | rfl | rfl := hc
    all_goals
      dsimp only [exec]
      exact (State.takes_of_command hrunning hcommand _ _).held_busy hlength hhold
  all_goals
    dsimp only [exec]
    exact (State.takes_of_command hrunning hcommand _ _).held_busy hlength hhold

/-! ### Notices, label and restarts (R185, R186, R189 to R191) -/

theorem conditionSet_ne_zero_iff (x : ConditionSet) : (x != 0#16) = true ↔ ∃ j < 16, x.getLsbD j = true := by
  rw [bne_iff_ne]
  refine ⟨fun hne => ?_, fun ⟨j, _, hj⟩ hzero => by simp [hzero] at hj⟩
  by_contra hnone
  push Not at hnone
  exact hne (BitVec.eq_of_getLsbD_eq fun j hj => by simpa using hnone j hj)

/-- ATTN at work: a station is HALTED, or a notice is pending that is not masked. -/
theorem State.attn_iff {s : State} (h : s.phase = .running) :
    s.attn = true ↔ s.member.state = .halted ∨ ∃ j < 16, s.port.notices.getLsbD j = true ∧ s.setup.noticeMask.getLsbD j = false := by
  have hbit (j : Nat) (hj : j < 16) : (s.port.notices &&& ~~~s.setup.noticeMask).getLsbD j = true ↔
      s.port.notices.getLsbD j = true ∧ s.setup.noticeMask.getLsbD j = false := by
    simp [hj]
  simp only [State.attn, h, beq_self_eq_true, Bool.true_and, Bool.or_eq_true, beq_iff_eq, State.unmaskedPending,
    conditionSet_ne_zero_iff]
  rw [or_comm]
  exact or_congr_right (exists_congr fun j => and_congr_right (hbit j))

/-- Settles O49: CLEAR NOTICES clears the notices that it names, and ATTN follows. -/
theorem clearNoticesClearsNamed : Obligations.ClearNoticesClearsNamed := by
  intro s bits args notices h hhold hlength hnotices
  have hset : BitVec.ofNat 16 (leNat (bytesOfPortBits (args.take 16))) = notices := by rw [← hnotices, BitVec.ofNat_toNat, BitVec.setWidth_eq]
  dsimp only [exec, execClearNotices]
  rw [h.execute_whole hlength hhold, show 8 * PortCommand.argCount .clearNotices = 16 from rfl, hset]
  have hclears (j : Nat) (hj : j < 16) :
      (s.port.notices &&& ~~~notices).getLsbD j = (s.port.notices.getLsbD j && !notices.getLsbD j) := by
    simp [hj]
  refine ⟨_, rfl, rfl, rfl, rfl, hclears, (State.attn_iff ?_).trans ?_⟩
  · exact h.1
  show (s.member.state = .halted ∨
    ∃ j < 16, (s.port.notices &&& ~~~notices).getLsbD j = true ∧ s.setup.noticeMask.getLsbD j = false) ↔ _
  refine or_congr_right (exists_congr fun j => and_congr_right fun hj => ?_)
  simp [hclears j hj, and_assoc]

/-- Settles O50: SET LABEL is taken in LOCKED only, and a restart is ordered and waits for its transaction to end. -/
theorem labelAndRestartsAreOrdered : Obligations.LabelAndRestartsAreOrdered := by
  refine ⟨fun s bits args label h hhold hlength hlabel => ?_, fun s hrunning hcommand hhold => ⟨?_, ?_⟩, fun s hrunning hopen => ?_⟩
  · have hset : BitVec.ofNat 32 (leNat (bytesOfPortBits (args.take 32))) = label := by rw [← hlabel, BitVec.ofNat_toNat, BitVec.setWidth_eq]
    dsimp only [exec, execSetLabel]
    rw [h.execute_whole hlength hhold, show 8 * PortCommand.argCount .setLabel = 32 from rfl, hset]
    refine ⟨_, rfl, ?_⟩
    split
    next hlocked => exact ⟨rfl, fun _ => ⟨rfl, rfl⟩, fun hnot => absurd hlocked hnot⟩
    next hlocked => exact ⟨rfl, fun hyes => absurd hyes hlocked, fun _ => ⟨rfl, rfl⟩⟩
  · dsimp only [exec]
    exact ⟨_, (State.takes_of_command hrunning hcommand _ []).execute_whole (Nat.zero_le _) hhold, rfl, rfl⟩
  · dsimp only [exec]
    exact ⟨_, (State.takes_of_command hrunning hcommand _ []).execute_whole (Nat.zero_le _) hhold, rfl, rfl, rfl, rfl⟩
  · refine (atWork_running s _ hrunning).trans ?_
    simp [hopen]

/-! ### The setup store (R198, R199) -/

theorem recordMatches_iff {record : List Byte} (h : record.length = 1004) :
    recordMatches record = true ↔ leNat (record.drop 1002) = (checkWord (record.take 1002)).toNat := by
  have hlast : (record.drop 1002).take 2 = record.drop 1002 := List.take_of_length_le (by simp [h])
  simp [recordMatches, hlast]

/-- Settles O52: PROGRAM SETUP acts by the hold, the pin and the check word. -/
theorem programSetupActsByCases : Obligations.ProgramSetupActsByCases := by
  refine ⟨fun s enable bits args record h hlength hrecord => ?_, fun s record hrunning hwriting => ?_⟩
  · have hwhole : record.length = 1004 := by simp [hrecord, bytesOfPortBits_length, hlength]
    dsimp only [exec, execProgramSetup]
    by_cases hhold : s.port.hold = .none
    · rw [h.execute_whole hlength hhold, show 8 * PortCommand.argCount .programSetup = 8032 from rfl, ← hrecord]
      refine ⟨_, rfl, ?_⟩
      unfold State.programSetup
      rw [← recordMatches_iff hwhole]
      split
      next hpin =>
        have hoff : enable = false := by simpa using hpin
        exact ⟨rfl, rfl, hwhole, fun hheld => absurd hhold hheld, fun _ _ => ⟨rfl, rfl, hhold⟩, fun _ hon => by simp [hoff] at hon,
          fun _ hon => by simp [hoff] at hon⟩
      next hpin =>
        have hon : enable = true := by simpa using hpin
        split
        next hword =>
          exact ⟨rfl, rfl, hwhole, fun hheld => absurd hhold hheld, fun _ hoff => by simp [hon] at hoff, fun _ _ _ => ⟨rfl, rfl, hhold⟩,
            fun _ _ hmatch => by simp [hmatch] at hword⟩
        next hbad =>
          have hword : recordMatches record = true := by simpa using hbad
          exact ⟨rfl, rfl, hwhole, fun hheld => absurd hhold hheld, fun _ hoff => by simp [hon] at hoff,
            fun _ _ hbad => absurd ((recordMatches_iff hwhole).mp hword) hbad, fun _ _ _ => ⟨rfl, rfl, rfl⟩⟩
    · exact ⟨_, h.execute_held hlength hhold, rfl, rfl, hwhole, fun _ => ⟨rfl, rfl, rfl⟩, fun hnone => absurd hnone hhold,
        fun hnone => absurd hnone hhold, fun hnone => absurd hnone hhold⟩
  · dsimp only [exec, execSetupWriteComplete]
    rw [atWork_running s _ hrunning]
    simp only [hwriting]

end Sys2Proof.Machine
end

section
/-! SUPPORT. The images that the port's reads return (R90, R180 to R183, R206), and how data out sends them. -/

namespace Sys2Proof.Machine

/-! ### Lengths, and the parts of an image -/

@[simp] theorem leBytes_length (n v : Nat) : (leBytes n v).length = n := by
  induction n generalizing v with
  | zero => rfl
  | succ n ih => simp [leBytes, ih]

@[simp] theorem uField_length (n v : Nat) : (uField n v).length = n := leBytes_length _ _

@[simp] theorem sField_length (n : Nat) (v : Int) : (sField n v).length = n := leBytes_length _ _

@[simp] theorem setBytes_length (c : ConditionSet) : (setBytes c).length = 2 := leBytes_length _ _

/-! ### The status image (R180, R181) -/

section

variable (s : State)

/-- The image shows of the port its notices, its cursor and its last result. -/
theorem State.statusImage_setPort {p : Port} (hnotices : p.notices = s.port.notices) (hcursor : p.cursor = s.port.cursor)
    (hresult : p.lastResult = s.port.lastResult) : (s.setPort p).statusImage = s.statusImage := by
  unfold State.statusImage
  rw [State.setPort_port, hnotices, hcursor, hresult]
  rfl

theorem State.statusImage_length : s.statusImage.length = 54 := by
  unfold State.statusImage
  simp only [List.length_append, uField_length, leBytes_length, setBytes_length, List.length_cons, List.length_nil]

theorem State.statusImage_getLast : s.statusImage.getLast? = some (byte s.port.lastResult.code) := by
  unfold State.statusImage
  exact List.getLast?_concat

/-- The image part by part: the station, its time, the mark and data line units, the conditions, the archive's pointers, its counts. -/
theorem State.statusImage_eq : s.statusImage =
    [byte (stationByte s.member.number), byte s.member.state.code, byte s.tb.timeState.code, byte (leadRank s.tb s.setup.holdoverHours)] ++
    ((uField 4 s.tb.sourceAge ++ leBytes 4 s.tb.epochNumber.toNat ++ uField 4 s.tb.epochsSinceStart) ++
    (([byte (stationByte s.mark.currentLeader)] ++ uField 2 s.mark.leaderless ++ uField 1 s.line.collisions ++
      [byte s.line.summaryDriven.toNat, byte (flag s.events.edgeSeen)]) ++
    ((setBytes s.currentConditions ++ setBytes s.port.notices ++ setBytes s.setup.noticeMask) ++
    ((uField 4 s.retention.oldestKept ++ uField 4 s.retention.newest ++ uField 4 s.retention.releasePoint ++ uField 4 s.retention.nextSeq) ++
    ((uField 2 s.retention.keptCount ++ uField 2 s.retention.unreleasedCount ++ uField 1 s.archive.queue.length ++ uField 4 s.port.cursor) ++
    [byte s.port.lastResult.code]))))) := by
  unfold State.statusImage
  simp only [List.append_assoc]

end

/-- Six parts of a list, by the lengths of those before them. -/
theorem six_parts {α : Type} {p q r u v w rest : List α} {a b c d e f : Nat} (hp : p.length = a) (hq : q.length = b) (hr : r.length = c)
    (hu : u.length = d) (hv : v.length = e) (hw : w.length = f) {l : List α} (hl : l = p ++ (q ++ (r ++ (u ++ (v ++ (w ++ rest)))))) :
    l.take a = p ∧ (l.drop a).take b = q ∧ (l.drop (a + b)).take c = r ∧ (l.drop (a + b + c)).take d = u ∧
      (l.drop (a + b + c + d)).take e = v ∧ (l.drop (a + b + c + d + e)).take f = w := by
  subst hl
  simp only [← List.drop_drop, List.drop_left' hp, List.drop_left' hq, List.drop_left' hr, List.drop_left' hu, List.drop_left' hv,
    List.take_left' hp, List.take_left' hq, List.take_left' hr, List.take_left' hu, List.take_left' hv, List.take_left' hw, and_self]

theorem stationByte_eq (k : Option Station) : stationByte k = (k.map stationNumber).getD 0 := by cases k <;> rfl

/-- Settles O48: the status image, and the result that is cleared once it has been clocked out. -/
theorem statusImageClearsResultWhenClocked : Obligations.StatusImageClearsResultWhenClocked := by
  refine ⟨fun s hrunning hcommand hhold => ?_, fun s hrunning hstatus himage => ?_⟩
  · obtain ⟨hstation, htime, hmark, hconditions, hpointers, hcounts⟩ :=
      six_parts (a := 4) (b := 12) (c := 6) (d := 6) (e := 16) (f := 9) (by simp) (by simp) (by simp) (by simp) (by simp) (by simp)
        s.statusImage_eq
    rw [stationByte_eq] at hstation hmark
    have himage := s.statusImage_setPort (p := ({ s.port with args := [] } : Port).executing .readStatus) rfl rfl rfl
    dsimp only [exec, execReadStatus]
    rw [(State.takes_of_command hrunning hcommand .readStatus []).execute_whole (Nat.zero_le _) hhold]
    exact ⟨_, s.statusImage, rfl, rfl, congrArg some himage, s.statusImage_length, s.statusImage_getLast, rfl, rfl, rfl, rfl, rfl,
      hstation, htime, hmark, hconditions, hpointers, hcounts⟩
  · dsimp only [exec, execStatusResultClocked]
    rw [atWork_running s _ hrunning, if_pos ⟨hstatus, himage⟩]
    exact ⟨_, rfl, rfl, rfl, fun _ _ => ⟨rfl, rfl⟩⟩

end Sys2Proof.Machine
end

section
/-! SUPPORT. The images of rows, roster, channels, drift table and setup record (R90, R182, R183, R206), and data out (R176 to R178). -/

namespace Sys2Proof.Machine

/-! ### Images of equal blocks -/

theorem length_flatMap_blocks {α β : Type} {f : α → List β} {n : Nat} (hf : ∀ a, (f a).length = n) (l : List α) :
    (l.flatMap f).length = n * l.length := by
  induction l with
  | nil => rfl
  | cons a rest ih =>
    rw [List.flatMap_cons, List.length_append, hf, ih, List.length_cons, Nat.mul_succ]
    exact Nat.add_comm _ _

/-- The block of an index. -/
theorem take_drop_flatMap {α β : Type} {f : α → List β} {n : Nat} (hf : ∀ a, (f a).length = n) {l : List α} {k : Nat}
    (hk : k < l.length) : ((l.flatMap f).drop (n * k)).take n = f l[k] := by
  induction l generalizing k with
  | nil => exact absurd hk (Nat.not_lt_zero k)
  | cons a rest ih =>
    cases k with
    | zero => exact List.take_left' (hf a)
    | succ k =>
      rw [Nat.mul_succ, Nat.add_comm, ← List.drop_drop, List.flatMap_cons, List.drop_left' (hf a)]
      exact ih (Nat.lt_of_succ_lt_succ hk)

theorem take_drop_stations {β : Type} {f : Station → List β} {n : Nat} (hf : ∀ k, (f k).length = n) (k : Station) :
    ((stations.flatMap f).drop (n * k.val)).take n = f k := by
  have hget : ∀ k : Station, stations[k.val]'k.isLt = k := by decide
  rw [take_drop_flatMap hf k.isLt, hget k]

/-! ### A read that answers with an image (R178) -/

theorem State.Takes.answer_eq {s : State} {c : PortCommand} {bits : List Bool} {image : State → List Byte} (h : s.Takes c bits bits)
    (hlength : 8 * c.argCount ≤ bits.length) (hhold : s.port.hold = .none) (hreads : c.reads = true)
    (himage : ∀ p, image (s.setPort p) = image s) :
    ∃ t, s.execute c bits (fun _ s => s.answer (image s)) = .next t ∧ t = s.setPort t.port ∧ t.port.image = some (image s) ∧
      t.port.lastResult = .done ∧ t.port.trans = .response ∧ t.port.leads = 2 ∧ t.port.imageIndex = 0 := by
  refine ⟨_, h.execute_whole hlength hhold, rfl, congrArg some (himage _), rfl, ?_, rfl, rfl⟩
  simp [State.answer, Port.executing, hreads]

/-! ### Rows, roster and drift table -/

theorem RosterEntry.image_length (e : RosterEntry) : e.image.length = 49 := by
  unfold RosterEntry.image
  split
  · simp
  · simp [padTo_length]

theorem Cell.image_length (c : Cell) : c.image.length = 51 := by
  simp [Cell.image, padTo_length]

theorem DriftBin.image_length (b : DriftBin) : b.image.length = 5 := by simp [DriftBin.image]

theorem RosterEntry.image_eq (e : RosterEntry) :
    e.image = if e.presence = .unseen then List.replicate 49 0
      else
        [byte e.presence.code] ++ uField 1 e.missed ++ leBytes 4 ((e.lastEpoch.getD 0).toNat) ++ uField 1 (e.lastRank.getD 0) ++
        uField 4 (e.lastAge.getD 0) ++ [byte ((e.lastState.map TimeState.code).getD 0)] ++ uField 1 e.temps.length ++
        ((e.temps.flatMap fun (x : TempRecord) =>
          byte (descriptor x.index x.kind x.quality) :: (sField 4 (x.value.getD 0) ++ leBytes 4 x.valueEpoch.toNat)) ++
            List.replicate 36 0).take 36 := by
  unfold RosterEntry.image
  cases e.lastState <;> rfl

/-- The report that a cell's record carries, if any. -/
def Cell.imageBody (c : Cell) : List Byte :=
  if c.state = .empty then [] else match c.report with
    | some r => encodeReport r
    | none => []

theorem Cell.image_eq (c : Cell) :
    c.image = [byte c.state.code, byte ((c.damage.map DamageKind.code).getD 0)] ++
      (match c.report with
        | some x => if c.state = .empty then List.replicate 49 0
            else byte (encodeReport x).length :: (encodeReport x ++ List.replicate 48 0).take 48
        | none => List.replicate 49 0) := by
  have hnone : byte ([] : List Byte).length :: padTo 48 [] = List.replicate 49 0 := by decide
  have hbody : c.image = [byte c.state.code, byte ((c.damage.map DamageKind.code).getD 0)] ++
      (byte (c.imageBody).length :: padTo 48 c.imageBody) := by
    unfold Cell.image
    cases c.damage <;> rfl
  rw [hbody, Cell.imageBody]
  cases c.report with
  | none => simpa using hnone
  | some x =>
    dsimp only
    split
    next => simpa using hnone
    next => rfl

theorem State.rosterImage_length (s : State) : s.rosterImage.length = 392 := length_flatMap_blocks (fun _ => RosterEntry.image_length _) _

theorem State.rosterImage_part (s : State) (k : Station) : (s.rosterImage.drop (49 * k.val)).take 49 = s.member.roster[k].image :=
  take_drop_stations (fun _ => RosterEntry.image_length _) k

theorem State.driftImage_length (s : State) : s.driftImage.length = 85 := by
  rw [State.driftImage, List.length_append, length_flatMap_blocks (fun i => DriftBin.image_length s.retention.drift[i])]
  simp [driftIndices]

theorem State.driftImage_head (s : State) : s.driftImage.take 5 = sField 4 s.tb.oscTemp ++ [byte (driftBinOf s.tb.oscTemp).val] :=
  List.take_left' (by simp)

theorem State.driftImage_part (s : State) (j : Fin 16) :
    (s.driftImage.drop (5 + 5 * j.val)).take 5 = sField 4 s.retention.drift[j].estimate ++ uField 1 s.retention.drift[j].weight := by
  have hhead : (sField 4 s.tb.oscTemp ++ [byte (driftBinOf s.tb.oscTemp).val]).length = 5 := by simp
  have hget : driftIndices[j.val]'(by simp [driftIndices]) = j := by simp [driftIndices]
  unfold State.driftImage
  rw [← List.drop_drop, List.drop_left' hhead, take_drop_flatMap (fun i => DriftBin.image_length s.retention.drift[i]) (k := j.val) (by simp [driftIndices]), hget]
  rfl

theorem Row.image_length (r : Row) : r.image.length = 418 := by
  rw [Row.image, List.length_append, length_flatMap_blocks (fun k => Cell.image_length r.cells[k])]
  simp [stations]

theorem Row.image_head (r : Row) :
    r.image.take 10 = leBytes 4 r.epoch.toNat ++ [byte ((r.leader.map stationNumber).getD 0), byte r.markKind.code] ++
      sField 2 (r.markPhase.getD (-32768)) ++ [byte r.summaryOr.toNat, byte (if r.cut then 1 else 0)] := by
  rw [← stationByte_eq]
  exact List.take_left' (by simp)

theorem Row.image_part (r : Row) (k : Station) : (r.image.drop (10 + 51 * k.val)).take 51 = r.cells[k].image := by
  unfold Row.image
  rw [← List.drop_drop, List.drop_left' (by simp), take_drop_stations (fun k => Cell.image_length r.cells[k])]

/-! ### Channel state (R183) -/

@[simp] theorem FrontEnd.vectorImage_length (f : FrontEnd) : f.vectorImage.length = 14 := by simp [FrontEnd.vectorImage]

@[simp] theorem FrontEnd.lastImage_length (f : FrontEnd) : f.lastImage.length = 9 := by
  unfold FrontEnd.lastImage
  split <;> simp

@[simp] theorem DecChannel.valueImage_length (d : DecChannel) : d.valueImage.length = 9 := by
  unfold DecChannel.valueImage
  split <;> simp

@[simp] theorem CorrChannel.fieldImage_length (x : CorrChannel) (c : ChannelSetup) : (x.fieldImage c).length = 21 := by
  simp [CorrChannel.fieldImage]

@[simp] theorem CorrChannel.correctedImage_length (x : CorrChannel) : x.correctedImage.length = 5 := by
  unfold CorrChannel.correctedImage
  split <;> simp

@[simp] theorem State.channelImage_length (s : State) (i : Channel) : (s.channelImage i).length = 59 := by
  unfold State.channelImage
  dsimp only
  simp only [List.length_cons, List.length_append]
  split <;> split <;> split <;> simp

@[simp] theorem FieldCheck.image_length (k : FieldCheck) : k.image.length = 9 := by
  unfold FieldCheck.image
  split <;> simp

theorem Markings.code_eq (m : Markings) :
    m.code = (if m.fault then 1 else 0) + (if m.clipped then 2 else 0) + if m.held then 4 else 0 := by
  obtain ⟨fault, clipped, held⟩ := m
  revert fault clipped held
  decide

theorem FrontEnd.lastImage_eq (f : FrontEnd) :
    f.lastImage = (match f.last with
      | some rec => [byte (128 + ((if rec.marks.fault then 1 else 0) + (if rec.marks.clipped then 2 else 0) +
          if rec.marks.held then 4 else 0))] ++ sField 8 rec.value
      | none => List.replicate 9 0) := by
  unfold FrontEnd.lastImage
  cases f.last with
  | none => rfl
  | some rec =>
    dsimp only
    rw [Markings.code_eq]
    rfl

theorem DecChannel.valueImage_eq (d : DecChannel) :
    d.valueImage = (match d.value with
      | some v => [byte (128 + match v.mark with
          | .none => 0
          | .fault => 1
          | .clipped => 2
          | .held => 4)] ++ sField 8 v.value
      | none => List.replicate 9 0) := by
  unfold DecChannel.valueImage
  cases d.value with
  | none => rfl
  | some v =>
    dsimp only
    cases v.mark <;> rfl

theorem CorrChannel.correctedImage_eq (x : CorrChannel) :
    x.correctedImage = (match x.corrected with
      | some v => [byte (128 + match v.corr with
          | .none => 0
          | .uncorrected => 1
          | .staleTemp => 2)] ++ sField 4 v.value
      | none => List.replicate 5 0) := by
  unfold CorrChannel.correctedImage
  cases x.corrected with
  | none => rfl
  | some v =>
    dsimp only
    cases v.corr <;> rfl

theorem CorrChannel.fieldImage_eq (x : CorrChannel) (c : ChannelSetup) :
    x.fieldImage c =
      uField 1 x.bin ++ [byte (if x.snapped then 1 else 0), byte x.freeze.code] ++ sField 4 x.offset ++ sField 4 x.scale ++
        (match x.glide with
          | some g => sField 4 g.targetOffset ++ sField 4 g.targetScale ++ uField 1 g.counter
          | none => sField 4 (c.row x.bin).offset ++ sField 4 (c.row x.bin).scale ++ uField 1 0) ++
        uField 1 (c.glideLength.getD 0) := by
  unfold CorrChannel.fieldImage
  cases x.glide <;> simp only [List.append_assoc] <;> rfl

theorem State.channelImage_eq (s : State) (i : Channel) :
    s.channelImage i = [byte s.setup.channels[i].kind.code] ++
      (if s.setup.channels[i].kind.isVector then s.front[i].vectorImage else List.replicate 14 0) ++
      (if s.setup.channels[i].kind = .off then List.replicate 9 0 else s.front[i].lastImage) ++
      (if s.setup.channels[i].kind = .off then List.replicate 9 0 else s.dec[i].valueImage) ++
      (if s.setup.channels[i].kind.isField then s.corr[i].fieldImage s.setup.channels[i] else List.replicate 21 0) ++
      (if s.setup.channels[i].kind = .off then List.replicate 5 0 else s.corr[i].correctedImage) := by
  have hoff : (if s.setup.channels[i].kind = .off then List.replicate 18 0 else s.front[i].lastImage ++ s.dec[i].valueImage) =
      (if s.setup.channels[i].kind = .off then List.replicate 9 (0 : Byte) else s.front[i].lastImage) ++
        if s.setup.channels[i].kind = .off then List.replicate 9 0 else s.dec[i].valueImage := by
    split <;> rfl
  unfold State.channelImage
  dsimp only
  rw [hoff]
  simp only [List.append_assoc, List.cons_append, List.nil_append]

theorem State.channelStateImage_length (s : State) : s.channelStateImage.length = 245 := by simp [State.channelStateImage]

theorem State.channelStateImage_part (s : State) (i : Channel) : (s.channelStateImage.drop (59 * i.val)).take 59 = s.channelImage i := by
  have hblocks : s.channelStateImage = (([0, 1, 2, 3] : List Channel).flatMap s.channelImage) ++ s.check.image := by
    simp [State.channelStateImage]
  have hget : ∀ i : Channel, ([0, 1, 2, 3] : List Channel)[i.val]'i.isLt = i := by decide
  have hlength : 59 * i.val + 59 ≤ (([0, 1, 2, 3] : List Channel).flatMap s.channelImage).length := by
    simp
    omega
  rw [hblocks, List.drop_append_of_le_length (by omega), List.take_append_of_le_length (by rw [List.length_drop]; omega),
    take_drop_flatMap s.channelImage_length i.isLt, hget]

theorem State.channelStateImage_check (s : State) : s.channelStateImage.drop 236 =
    uField 1 s.check.outCount ++ uField 1 s.check.inCount ++
      [byte (if s.check.drift then 1 else 0), byte (if s.check.last = none then 0 else 128)] ++
      (match s.check.last with
        | some d => sField 4 d.value ++ [byte (d.station % 16 + 16 * d.channel.val)]
        | none => List.replicate 5 0) := by
  unfold State.channelStateImage
  rw [List.drop_left' (by simp)]
  unfold FieldCheck.image
  cases s.check.last <;> rfl

/-! ### The setup record (R182, R206) -/

theorem channelSetupImage_length {bytes : List Byte} (h : bytes.length = 221) : (channelSetupImage bytes).length = 221 := by
  simp [channelSetupImage, padTo_length, h]

theorem padTo_getD (n : Nat) (bytes : List Byte) (j : Nat) : (padTo n bytes).getD j 0 = if j < n then bytes.getD j 0 else 0 := by
  simp only [padTo, List.getD_eq_getElem?_getD, List.getElem?_take]
  split
  next hj =>
    rcases Nat.lt_or_ge j bytes.length with hin | hout
    · rw [List.getElem?_append_left hin]
    · rw [List.getElem?_append_right hout, List.getElem?_eq_none hout, List.getElem?_replicate]
      split <;> rfl
  next => rfl

theorem take_getD (n : Nat) (bytes : List Byte) (j : Nat) : (bytes.take n).getD j 0 = if j < n then bytes.getD j 0 else 0 := by
  simp only [List.getD_eq_getElem?_getD, List.getElem?_take]
  split <;> rfl

theorem drop_getD (n : Nat) (bytes : List Byte) (j : Nat) : (bytes.drop n).getD j 0 = bytes.getD (n + j) 0 := by
  simp only [List.getD_eq_getElem?_getD, List.getElem?_drop]

/-- A byte of a channel's setup: as it stands up to its last used row, and zero in the rows after it. -/
theorem channelSetupImage_getD {bytes : List Byte} (h : bytes.length = 221) (j : Nat) :
    (channelSetupImage bytes).getD j 0 = if j < 29 + 12 * (bytes.getD 28 0).toNat then bytes.getD j 0 else 0 := by
  unfold channelSetupImage
  rcases Nat.lt_or_ge j 29 with hhead | hrows
  · rw [List.getD_append _ _ _ _ (by simp [h, hhead]), take_getD, if_pos hhead, if_pos (by omega)]
  · rw [List.getD_append_right _ _ _ _ (by simp [h, hrows]), padTo_getD, take_getD, drop_getD]
    simp only [List.length_take, h, show 29 + (j - min 29 221) = j by omega]
    rcases Nat.lt_or_ge j 221 with hin | hout
    · rw [if_pos (by omega)]
      congr 1
      simp only [eq_iff_iff]
      omega
    · rw [if_neg (by omega), List.getD_eq_default _ _ (h.trans_le hout), ite_self]

section

variable {s : State} (h : s.store.stored.length = 1004)

include h

theorem State.storedChannel_length (i : Channel) : ((s.store.stored.drop (channelAt i)).take 221).length = 221 := by
  simp [h, channelAt]
  omega

theorem State.setupImage_length : s.setupImage.length = 1004 := by
  have hchannel (i : Channel) := channelSetupImage_length (s.storedChannel_length h i)
  simp [State.setupImage, h, hchannel]

/-- A byte of a channel's setup in the image. -/
theorem State.setupImage_getD_channel (i : Channel) {m : Nat} (hm : m < 221) :
    s.setupImage.getD (channelAt i + m) 0 =
      if m < 29 + 12 * (s.store.stored.getD (channelAt i + 28) 0).toNat then s.store.stored.getD (channelAt i + m) 0 else 0 := by
  have hchannel (i : Channel) := channelSetupImage_length (s.storedChannel_length h i)
  have hbytes (k : Nat) (hk : k < 221) : ((s.store.stored.drop (channelAt i)).take 221).getD k 0 = s.store.stored.getD (channelAt i + k) 0 := by
    rw [take_getD, if_pos hk, drop_getD]
  have hget : ∀ i : Channel, ([0, 1, 2, 3] : List Channel)[i.val]'i.isLt = i := by decide
  have hpart : (((([0, 1, 2, 3] : List Channel).flatMap fun i => channelSetupImage ((s.store.stored.drop (channelAt i)).take 221)).drop
      (221 * i.val)).take 221).getD m 0 = (channelSetupImage ((s.store.stored.drop (channelAt i)).take 221)).getD m 0 := by
    rw [take_drop_flatMap hchannel i.isLt, hget]
  rw [channelSetupImage_getD (s.storedChannel_length h i), hbytes m hm, hbytes 28 (by decide), take_getD, if_pos hm, drop_getD] at hpart
  have hblocks := length_flatMap_blocks hchannel ([0, 1, 2, 3] : List Channel)
  have hsix : (s.store.stored.take 6).length = 6 := by simp [h]
  have hi := i.isLt
  rw [← hpart]
  unfold State.setupImage channelAt
  dsimp only [channelAt] at hblocks ⊢
  rw [List.getD_append _ _ _ _ (by rw [List.length_append, hblocks, hsix]; simp only [List.length_cons, List.length_nil]; omega),
    List.getD_append_right _ _ _ _ (by rw [hsix]; omega), hsix]
  congr 1
  omega

/-- The bytes before the channels and after them stand as they are stored. -/
theorem State.setupImage_getD_other {j : Nat} (hj : j < 6 ∨ 890 ≤ j) : s.setupImage.getD j 0 = s.store.stored.getD j 0 := by
  have hchannel (i : Channel) := channelSetupImage_length (s.storedChannel_length h i)
  have hblocks := length_flatMap_blocks hchannel ([0, 1, 2, 3] : List Channel)
  have hsix : (s.store.stored.take 6).length = 6 := by simp [h]
  unfold State.setupImage
  dsimp only
  obtain hlow | hhigh := hj
  · rw [List.append_assoc, List.getD_append _ _ _ _ (hlow.trans_eq hsix.symm), take_getD, if_pos hlow]
  · have hbefore : (s.store.stored.take 6 ++ ([0, 1, 2, 3] : List Channel).flatMap fun i =>
        channelSetupImage ((s.store.stored.drop (channelAt i)).take 221)).length = 890 := by
      rw [List.length_append, hblocks, hsix]
      simp
    rw [List.getD_append_right _ _ _ _ (hbefore.trans_le hhigh), hbefore, drop_getD, Nat.add_sub_cancel' hhigh]

end

/-! ### Data out (R176 to R178) -/

/-- Outside RESPONSE data out sends 0x00. -/
theorem State.dataOut_quiet {s : State} (hrunning : s.phase = .running) (hselect : s.pins.selectLow = true) (hidle : s.port.trans ≠ .idle)
    (hresponse : s.port.trans ≠ .response) (edges : Nat) : s.dataOut edges = some false := by
  have hbyte : (State.clock (edges / 8) s).outByte = 0 := if_neg fun h => hresponse (by simpa using h.1)
  unfold State.dataOut
  rw [if_pos (by simp [hselect, State.running, hrunning, hidle]), hbyte, portBits_getD _ _ (Nat.mod_lt _ (by decide))]
  simp

/-- An image after its two lead bytes. -/
theorem State.dataOut_image {s : State} {image : List Byte} (hrunning : s.phase = .running) (hselect : s.pins.selectLow = true)
    (hresponse : s.port.trans = .response) (hstream : s.port.command ≠ some .readEntries) (himage : s.port.image = some image)
    (hindex : s.port.imageIndex = 0) (hleads : s.port.leads = 2) (edges : Nat) :
    s.dataOut edges = some ((([0, 0] ++ image).getD (edges / 8) 0).getLsbD (7 - edges % 8)) := by
  have hbyte : (State.clock (edges / 8) s).outByte = ([0, 0] ++ image).getD (edges / 8) 0 := by
    rw [State.outByte_clock _ _ hstream hresponse, himage, hindex, hleads]
    match edges / 8 with
    | 0 | 1 => rfl
    | n + 2 => simp
  rw [State.dataOut_response s edges hrunning hselect hresponse, hbyte]

/-- READ ROW: the image of the closed row of an age, and none for an age above 3 (R90). -/
theorem EpochTable.rowImage_of_none {t : EpochTable} {age : Nat} (h : (t.rows.filter fun r => !r.isOpen)[age]? = none) :
    t.rowImage age = List.replicate 418 0 := by
  unfold EpochTable.rowImage EpochTable.closedRows
  rw [h]
  rfl

theorem EpochTable.rowImage_of_some {t : EpochTable} {age : Nat} {r : Row} (h : (t.rows.filter fun r => !r.isOpen)[age]? = some r) :
    t.rowImage age = r.image := by
  unfold EpochTable.rowImage EpochTable.closedRows
  rw [h]

theorem EpochTable.rowImage_length (t : EpochTable) (age : Nat) : (t.rowImage age).length = 418 := by
  unfold EpochTable.rowImage
  split
  · exact Row.image_length _
  · exact List.length_replicate

/-- Settles O47: each read returns its image, and data out sends a response bit by bit. -/
theorem readsReturnImages : Obligations.ReadsReturnImages := by
  refine ⟨fun s bits age hrunning hcommand hhold => ⟨?roster, ?channels, ?drift, ?setup, ?row⟩,
    fun s image edges hrunning hselect hresponse hstream himage hindex hleads => ?_, fun s edges hrunning => ⟨fun hselect => ?_, fun hselect htrans => ?_⟩⟩
  case roster =>
    obtain ⟨t, ht, hframe, himage, hdone, hresponse, hleads, hindex⟩ :=
      (State.takes_of_command hrunning hcommand .readRoster []).answer_eq (image := State.rosterImage) (Nat.zero_le _) hhold rfl fun _ => rfl
    refine ⟨t, _, ht, hframe, himage, s.rosterImage_length, hdone, hresponse, hleads, hindex, fun k => ?_⟩
    rw [s.rosterImage_part k, RosterEntry.image_eq]
  case channels =>
    obtain ⟨t, ht, hframe, himage, hdone, hresponse, hleads, hindex⟩ :=
      (State.takes_of_command hrunning hcommand .readChannelState []).answer_eq (image := State.channelStateImage) (Nat.zero_le _) hhold rfl
        fun _ => rfl
    refine ⟨t, _, ht, hframe, himage, s.channelStateImage_length, hdone, hresponse, hleads, hindex, fun i => ?_, s.channelStateImage_check⟩
    rw [s.channelStateImage_part i, s.channelImage_eq i, FrontEnd.lastImage_eq, DecChannel.valueImage_eq, CorrChannel.fieldImage_eq,
      CorrChannel.correctedImage_eq]
    rfl
  case drift =>
    obtain ⟨t, ht, hframe, himage, hdone, hresponse, hleads, hindex⟩ :=
      (State.takes_of_command hrunning hcommand .readDriftTable []).answer_eq (image := State.driftImage) (Nat.zero_le _) hhold rfl fun _ => rfl
    exact ⟨t, _, ht, hframe, himage, s.driftImage_length, hdone, hresponse, hleads, hindex, s.driftImage_head, s.driftImage_part⟩
  case setup =>
    obtain ⟨t, ht, hframe, himage, hdone, hresponse, hleads, hindex⟩ :=
      (State.takes_of_command hrunning hcommand .readSetup []).answer_eq (image := State.setupImage) (Nat.zero_le _) hhold rfl fun _ => rfl
    refine ⟨t, _, ht, hframe, himage, hdone, hresponse, hleads, hindex, fun h => ⟨State.setupImage_length h, ?_, fun j hj hkept => ?_⟩⟩
    · intro i row j hcount hrow hj
      rw [show 34 + 221 * i.val = channelAt i + 28 by unfold channelAt; omega] at hcount
      rw [show 35 + 221 * i.val + 12 * row + j = channelAt i + (29 + 12 * row + j) by unfold channelAt; omega,
        State.setupImage_getD_channel h i (by omega), if_neg (by omega)]
    · by_cases hother : j < 6 ∨ 890 ≤ j
      · exact State.setupImage_getD_other h hother
      · obtain ⟨i, m, hm, rfl⟩ : ∃ (i : Channel) (m : Nat), m < 221 ∧ j = channelAt i + m :=
          ⟨⟨(j - 6) / 221, by omega⟩, (j - 6) % 221, Nat.mod_lt _ (by decide), by unfold channelAt; dsimp only; omega⟩
        have hrows := hkept i
        rw [show 34 + 221 * i.val = channelAt i + 28 by unfold channelAt; omega] at hrows
        rw [State.setupImage_getD_channel h i hm, if_pos (by unfold channelAt at hrows ⊢; omega)]
  case row =>
    intro hlength hage
    dsimp only [exec, execReadRow]
    rw [(State.takes_of_command hrunning hcommand .readRow bits).execute_whole hlength hhold,
      show 8 * PortCommand.argCount .readRow = 8 from rfl, ← hage]
    refine ⟨_, rfl, ?_⟩
    split
    next hle =>
      refine ⟨rfl, rfl, fun hgt => absurd hle hgt.not_ge, fun _ => ⟨rfl, rfl, rfl, _, rfl, s.table.rowImage_length age,
        EpochTable.rowImage_of_none, fun r hr => ?_⟩⟩
      rw [State.setPort_table, EpochTable.rowImage_of_some hr]
      exact ⟨r.image_head, fun k => (r.image_part k).trans (Cell.image_eq _)⟩
    next hgt => exact ⟨rfl, rfl, fun _ => ⟨rfl, rfl⟩, fun hle => absurd hle hgt⟩
  · exact State.dataOut_image hrunning hselect hresponse hstream himage hindex hleads edges
  · simp [State.dataOut, hselect]
  · refine State.dataOut_quiet hrunning hselect ?_ ?_ edges
    all_goals
      intro h
      simp [h] at htrans

end Sys2Proof.Machine
end

section
/-! SUPPORT. The words of an entry (R170, log 15), and the writes of entries (R163 to R166). -/

namespace Sys2Proof.Machine

/-! ### The bytes of an entry's words -/

theorem leBytes_leNat (bytes : List Byte) : leBytes bytes.length (leNat bytes) = bytes := by
  induction bytes with
  | nil => rfl
  | cons b rest ih =>
    have hdiv : (b.toNat + 256 * leNat rest) / 256 = leNat rest := by have := b.isLt; omega
    have hbyte : BitVec.ofNat 8 (b.toNat + 256 * leNat rest) = b := by
      apply BitVec.eq_of_toNat_eq
      have := b.isLt
      simp only [BitVec.toNat_ofNat]
      omega
    rw [List.length_cons, leBytes, show leNat (b :: rest) = b.toNat + 256 * leNat rest from rfl, hdiv, hbyte, ih]

/-- A word of eight bytes is those bytes. -/
theorem leBytes_word {bytes : List Byte} (h : bytes.length = 8) : leBytes 8 (BitVec.ofNat 64 (leNat bytes)).toNat = bytes := by
  have hlt : leNat bytes < 2 ^ 64 := by simpa [h] using leNat_lt bytes
  rw [BitVec.toNat_ofNat, Nat.mod_eq_of_lt hlt, ← h, leBytes_leNat]

theorem flatMap_chunks {α : Type} (n : Nat) (l : List α) (k : Nat) :
    (List.range k).flatMap (fun i => (l.drop (n * i)).take n) = l.take (n * k) := by
  induction k with
  | zero => simp
  | succ k ih => rw [List.range_succ, List.flatMap_append, ih, List.flatMap_singleton, Nat.mul_succ, List.take_add]

theorem padTo_append_zeros {n k : Nat} {bytes : List Byte} (h : bytes.length = n) : padTo (n + k) bytes = bytes ++ List.replicate k 0 := by
  unfold padTo
  rw [List.take_append, List.take_of_length_le (by omega), List.take_replicate]
  congr 2
  omega

theorem Entry.words_clean (e : Entry) : ∀ w ∈ e.words, w.held = w.written := by
  intro w hw
  obtain ⟨i, -, rfl⟩ := List.mem_map.mp hw
  rfl

/-- The words of an entry are its image and three zero bytes. -/
theorem Entry.words_bytes (e : Entry) :
    e.words.flatMap (fun w => leBytes 8 w.written.toNat) = entryImageBytes e.seq .none e.tail ++ [0, 0, 0] := by
  have hpad : padTo 64 (entryImageBytes e.seq .none e.tail) = entryImageBytes e.seq .none e.tail ++ [0, 0, 0] :=
    padTo_append_zeros (k := 3) (entryImageBytes_length _ _ _)
  have hchunk (i : Nat) (hi : i ∈ List.range 8) :
      leBytes 8 (BitVec.ofNat 64 (leNat (((padTo 64 (entryImageBytes e.seq .none e.tail)).drop (8 * i)).take 8))).toNat =
        ((padTo 64 (entryImageBytes e.seq .none e.tail)).drop (8 * i)).take 8 := by
    rw [List.mem_range] at hi
    exact leBytes_word (by rw [List.length_take, List.length_drop, padTo_length]; omega)
  unfold Entry.words
  rw [List.flatMap_map]
  dsimp only
  rw [List.flatMap_congr hchunk, flatMap_chunks, List.take_of_length_le (padTo_length _ _).le, hpad]

/-! ### Writes -/

section

variable {s : State} {e : Entry} {rest : List Entry}

/-- The head of the queue is written where there is room. -/
theorem State.writeStart_room (hqueue : s.archive.queue = e :: rest) (hidle : s.archive.writing = none)
    (hroom : s.retention.slots.length < Config.archiveSlots) : s.writeStart = s.beginWrite := by
  unfold State.writeStart
  rw [hqueue, hidle]
  exact if_pos hroom

theorem State.writeStart_full (hqueue : s.archive.queue = e :: rest) (hidle : s.archive.writing = none)
    (hfull : Config.archiveSlots ≤ s.retention.slots.length) :
    s.writeStart = if s.retention.oldestReleased then s.replaceOldest
      else if s.setup.keepNewest then s.replaceOldest.raise .archiveOverrun
      else (s.setArchive { s.archive with queue := rest }).raise .archiveFull := by
  unfold State.writeStart
  rw [hqueue, hidle]
  exact if_neg (Nat.not_lt.mpr hfull)

theorem State.replaceOldest_eq {x y : Slot} {others : List Slot} (hslots : s.retention.slots = x :: y :: others) :
    s.replaceOldest = ((s.setRetention { s.retention with slots := y :: others, oldestKept := y.seq }).setPort
      { s.port with cursor := max s.port.cursor y.seq }).beginWrite := by
  have heq : s.retention.removeOldest = { s.retention with slots := y :: others, oldestKept := y.seq } := by
    simp [Retention.removeOldest, hslots]
  unfold State.replaceOldest
  rw [heq]
  rfl

/-- The write of the head of the queue begins, with the ring as it stands. -/
theorem State.writeStart_cases (hqueue : s.archive.queue = e :: rest) (hidle : s.archive.writing = none) :
    s.writeStart.retention.nextSeq = s.retention.nextSeq ∧ s.writeStart.retention.newest = s.retention.newest ∧
    s.writeStart.retention.releasePoint = s.retention.releasePoint ∧
    (s.retention.slots.length < 8192 → s.writeStart = s.setArchive { s.archive with writing := some s.retention.nextSlot }) ∧
    (∀ x y others, s.retention.slots = x :: y :: others → 8192 ≤ s.retention.slots.length →
      x.seq ≤ s.retention.releasePoint ∨ s.setup.keepNewest = true →
      s.writeStart.retention.slots = y :: others ∧ s.writeStart.retention.oldestKept = y.seq ∧
      s.writeStart.port.cursor = max s.port.cursor y.seq ∧ s.writeStart.archive.queue = s.archive.queue ∧
      s.writeStart.archive.writing = some s.writeStart.retention.nextSlot ∧
      s.writeStart.raised = (if x.seq ≤ s.retention.releasePoint then s.raised else s.raised ||| 0x1000#16)) ∧
    (∀ x others, s.retention.slots = x :: others → 8192 ≤ s.retention.slots.length → s.retention.releasePoint < x.seq →
      s.setup.keepNewest = false →
      s.writeStart.retention = s.retention ∧ s.writeStart.archive = { s.archive with queue := rest } ∧
      s.writeStart.raised = s.raised ||| 0x800#16 ∧ s.writeStart.port.cursor = s.port.cursor) := by
  rcases Nat.lt_or_ge s.retention.slots.length 8192 with hroom | hfull
  · rw [State.writeStart_room hqueue hidle hroom]
    exact ⟨rfl, rfl, rfl, fun _ => rfl, fun _ _ _ _ hge => absurd hroom hge.not_gt, fun _ _ _ hge => absurd hroom hge.not_gt⟩
  · obtain ⟨x, y, others, hslots⟩ : ∃ x y others, s.retention.slots = x :: y :: others := by
      match hs : s.retention.slots with
      | x :: y :: others => exact ⟨x, y, others, rfl⟩
      | [] | [_] => rw [hs] at hfull; simp at hfull
    have hreleased : s.retention.oldestReleased = decide (x.seq ≤ s.retention.releasePoint) := by simp [Retention.oldestReleased, hslots]
    rw [State.writeStart_full hqueue hidle hfull, hreleased, hslots, State.replaceOldest_eq hslots]
    simp only [decide_eq_true_eq, List.cons.injEq, and_imp]
    split
    next hle =>
      refine ⟨rfl, rfl, rfl, fun hlt => absurd hfull (by rw [hslots]; exact hlt.not_ge), ?_, ?_⟩
      · rintro _ _ _ rfl rfl rfl - -
        exact ⟨rfl, rfl, rfl, rfl, rfl, by rw [if_pos hle]; rfl⟩
      · rintro _ _ rfl - - hlt
        exact absurd hle hlt.not_ge
    next hgt =>
      split
      next hkeep =>
        refine ⟨rfl, rfl, rfl, fun hlt => absurd hfull (by rw [hslots]; exact hlt.not_ge), ?_, ?_⟩
        · rintro _ _ _ rfl rfl rfl - -
          exact ⟨rfl, rfl, rfl, rfl, rfl, by rw [if_neg hgt]; rfl⟩
        · rintro _ _ rfl - - - hno
          simp [hkeep] at hno
      next hkeep =>
        refine ⟨rfl, rfl, rfl, fun hlt => absurd hfull (by rw [hslots]; exact hlt.not_ge), ?_, ?_⟩
        · rintro _ _ _ rfl rfl rfl - (hle | hyes)
          · exact absurd hle hgt
          · exact absurd hyes hkeep
        · rintro _ _ rfl - - - -
          exact ⟨rfl, rfl, rfl, rfl⟩

/-- The write in progress completes: the entry stands in its slot, and the cursor follows where it is the only one. -/
theorem State.writeComplete_eq {slot : Nat} (hqueue : s.archive.queue = e :: rest) (hbusy : s.archive.writing = some slot) :
    s.writeComplete = ((s.setRetention { s.retention with
        slots := s.retention.slots ++ [{ index := slot, seq := e.seq, words := e.words }], newest := e.seq,
        oldestKept := if s.retention.slots = [] then e.seq else s.retention.oldestKept }).setArchive { queue := rest, writing := none }).setPort
      { s.port with cursor := if s.retention.slots = [] then max s.port.cursor e.seq else s.port.cursor } := by
  unfold State.writeComplete
  rw [hqueue, hbusy]
  cases hslots : s.retention.slots with
  | nil => simp [Retention.complete, hslots, Port.follow]
  | cons x others =>
    simp [Retention.complete, hslots]
    rfl

end

/-- Settles O42: entries are written into the ring, the oldest giving way where it may, and an entry's words are its image. -/
theorem archiveWritesStartAndComplete : Obligations.ArchiveWritesStartAndComplete := by
  refine ⟨fun s e rest hrunning hqueue hidle => ⟨_, atWork_running s _ hrunning, State.writeStart_cases hqueue hidle⟩,
    fun s e rest slot hrunning hqueue hbusy => ⟨_, atWork_running s _ hrunning, ?_⟩, fun e => ⟨by simp [Entry.words], e.words_clean, e.words_bytes⟩⟩
  rw [State.writeComplete_eq hqueue hbusy]
  exact ⟨rfl, rfl, rfl, rfl⟩

end Sys2Proof.Machine
end

section
/-! SUPPORT. The entry images of READ ENTRIES (R170, R172, R173, R178): what an image shows, and the stream as it is clocked out. -/

namespace Sys2Proof.Machine

/-! ### Words as they are read (R170) -/

/-- A word with at most two bits in error, as it is used. -/
theorem EntryWord.read_eq {w : EntryWord} (h : w.errors ≤ 2) (n : Nat) :
    w.read n =
      { value := if w.errors = 1 then w.written else w.held
        status := if w.errors = 0 then .clean else if w.errors = 1 then .corrected else .damaged
        freeReads := n } := by
  unfold EntryWord.read
  match w.errors, h with
  | 0, _ | 1, _ | 2, _ => rfl

theorem readWords_eq {words : List EntryWord} (h : ∀ w ∈ words, w.errors ≤ 2) (n : Nat) :
    (readWords words n).bytes = words.flatMap (fun w => leBytes 8 (if w.errors = 1 then w.written else w.held).toNat) ∧
    (readWords words n).freeReads = n := by
  induction words with
  | nil => exact ⟨rfl, rfl⟩
  | cons w rest ih =>
    obtain ⟨hw, hrest⟩ := List.forall_mem_cons.mp h
    obtain ⟨hbytes, hfree⟩ := ih hrest
    simp only [readWords, EntryWord.read_eq hw, hbytes, hfree, List.flatMap_cons, and_self]

theorem readWords_status {words : List EntryWord} (h : ∀ w ∈ words, w.errors ≤ 2) (n : Nat) :
    ((readWords words n).status = .damaged ↔ ∃ w ∈ words, w.errors = 2) ∧ ((readWords words n).status = .clean ↔ ∀ w ∈ words, w.errors = 0) ∧
    ((readWords words n).status = .clean ∨ (readWords words n).status = .corrected ∨ (readWords words n).status = .damaged) := by
  induction words with
  | nil => simp [readWords]
  | cons w rest ih =>
    obtain ⟨hw, hrest⟩ := List.forall_mem_cons.mp h
    obtain ⟨hdamaged, hclean, hone⟩ := ih hrest
    simp only [readWords, EntryWord.read_eq hw, List.exists_mem_cons_iff, List.forall_mem_cons, ← hdamaged, ← hclean]
    match w.errors, hw with
    | 0, _ | 1, _ | 2, _ => obtain hs | hs | hs := hone <;> rw [hs] <;> decide

/-! ### Images (R172, R204) -/

theorem padTo_padTo_append {n : Nat} (bytes more : List Byte) : padTo n (padTo n bytes ++ more) = padTo n bytes := by
  rw [padTo, List.append_assoc, List.take_left' (padTo_length n bytes)]

theorem entryImageBytes_take (seq : Nat) (status : ReadStatus) (tail : List Byte) :
    (entryImageBytes seq status tail).take 5 = uField 4 seq ++ [byte status.code] := by
  have hsplit : entryImageBytes seq status tail = (uField 4 seq ++ [byte status.code]) ++ padTo 56 tail := by
    simp [entryImageBytes]
  rw [hsplit, List.take_left' (by simp)]

theorem entryImageBytes_getD (seq : Nat) (status : ReadStatus) (tail : List Byte) (m : Nat) :
    (entryImageBytes seq status tail).getD (5 + m) 0 = (padTo 56 tail).getD m 0 := by
  have hsplit : entryImageBytes seq status tail = (uField 4 seq ++ [byte status.code]) ++ padTo 56 tail := by
    simp [entryImageBytes]
  rw [hsplit, List.getD_append_right _ _ _ _ (by simp)]
  simp

/-- The fields of an entry, byte by byte. -/
theorem entryFields_getD (bytes : List Byte) {m : Nat} (hm : m < 56) :
    (padTo 56 (entryFields bytes)).getD m 0 =
      if m = 5 then bytes.getD 5 0 &&& 0x7F#8 else if 8 + (bytes.getD 7 0).toNat ≤ m then 0 else bytes.getD m 0 := by
  have hbyte (k : Nat) (hk : k < 56) : (padTo 56 bytes).getD k 0 = bytes.getD k 0 := by rw [padTo_getD, if_pos hk]
  have hfive : ((padTo 56 bytes).take 5).length = 5 := by simp [padTo_length]
  have htwo : (((padTo 56 bytes).drop 6).take 2).length = 2 := by simp [padTo_length]
  rw [padTo_getD, if_pos hm]
  unfold entryFields
  dsimp only
  rw [hbyte 5 (by decide), hbyte 7 (by decide), List.append_assoc]
  rcases Nat.lt_or_ge m 5 with hlow | hmid
  · rw [List.getD_append _ _ _ _ (hlow.trans_eq hfive.symm), take_getD, if_pos hlow, hbyte m hm, if_neg (by omega), if_neg (by omega)]
  · obtain ⟨k, rfl⟩ : ∃ k, m = 5 + k := ⟨m - 5, by omega⟩
    rw [List.getD_append_right _ _ _ _ (by omega), hfive, Nat.add_sub_cancel_left]
    rcases k with _ | k
    · rfl
    · rw [if_neg (by omega), List.cons_append, List.getD_cons_succ]
      rcases Nat.lt_or_ge k 2 with hcount | hbody
      · rw [List.getD_append _ _ _ _ (hcount.trans_eq htwo.symm), take_getD, if_pos hcount, drop_getD, if_neg (by omega),
          hbyte _ (by omega), show 6 + k = 5 + (k + 1) by omega]
      · obtain ⟨j, rfl⟩ : ∃ j, k = 2 + j := ⟨k - 2, by omega⟩
        rw [List.getD_append_right _ _ _ _ (by omega), htwo, Nat.add_sub_cancel_left, padTo_getD, if_pos (by omega), take_getD, drop_getD,
          hbyte _ (by omega), show 5 + (2 + j + 1) = 8 + j by omega]
        split
        next hin => rw [if_neg (by omega)]
        next hout => rw [if_pos (by omega)]

/-- An entry's own words give its fields back. -/
theorem entryFields_words (e : Entry) : entryFields ((entryImageBytes e.seq .none e.tail ++ [0, 0, 0]).drop 5) = e.tail := by
  have hsplit : entryImageBytes e.seq .none e.tail ++ [0, 0, 0] = (uField 4 e.seq ++ [byte ReadStatus.none.code]) ++ (padTo 56 e.tail ++ [0, 0, 0]) := by
    simp [entryImageBytes]
  have hpad : entryFields (padTo 56 e.tail ++ [0, 0, 0]) = entryFields e.tail := by
    unfold entryFields
    rw [padTo_padTo_append]
  rw [hsplit, List.drop_left' (by simp), hpad, entryFields_tail]

theorem EntryWord.errors_of_clean {w : EntryWord} (h : w.held = w.written) : w.errors = 0 := by
  simp [EntryWord.errors, h]

/-- What an image shows (R170, R172, R204): the entry that READ ENTRIES finds at the cursor, as its words are read. -/
theorem State.nextEntryImage_shows (s : State) : s.ShowsEntry s.nextEntryImage.bytes s.nextEntryImage.entry := by
  refine ⟨s.nextEntryImage_length, fun x rest older hslots holder hcursor => ?_, fun hbelow => ?_⟩
  · have hfind : s.retention.slots.find? (fun x => decide (s.port.cursor ≤ x.seq)) = some x := by
      rw [hslots, List.find?_append, List.find?_eq_none.mpr fun y hy => by simpa using holder y hy]
      simp [hcursor]
    have himage : s.nextEntryImage =
        { bytes := entryImageBytes x.seq (readWords x.words s.freeReads).status (entryFields ((readWords x.words s.freeReads).bytes.drop 5))
          entry := some x.seq
          freeReads := (readWords x.words s.freeReads).freeReads } := by
      unfold State.nextEntryImage
      rw [hfind]
    rw [himage]
    refine ⟨rfl, fun herrors => ?_⟩
    obtain ⟨hbytes, -⟩ := readWords_eq herrors s.freeReads
    obtain ⟨hdamaged, hclean, hone⟩ := readWords_status herrors s.freeReads
    have hread (n : Nat) : (readWords x.words s.freeReads).bytes.getD n 0 = x.byteRead n := by rw [hbytes]; rfl
    refine ⟨_, entryImageBytes_take _ _ _, fun n hlow hhigh => ?_, hdamaged, hclean, hone, fun e he => ?_⟩
    · obtain ⟨m, rfl⟩ : ∃ m, n = 5 + m := ⟨n - 5, by omega⟩
      rw [entryImageBytes_getD, entryFields_getD _ (by omega), drop_getD, drop_getD, drop_getD, hread, hread, hread]
      simp only [show 5 + m = 10 ↔ m = 5 by omega, show 13 + (x.byteRead 12).toNat ≤ 5 + m ↔ 8 + (x.byteRead 12).toNat ≤ m by omega]
    · have hzero : ∀ w ∈ x.words, w.errors = 0 := fun w hw => EntryWord.errors_of_clean (e.words_clean w (he ▸ hw))
      have hwords : (readWords x.words s.freeReads).bytes = entryImageBytes e.seq .none e.tail ++ [0, 0, 0] := by
        rw [hbytes, ← e.words_bytes, ← he]
        refine List.flatMap_congr fun w hw => ?_
        rw [hzero w hw, if_neg Nat.zero_ne_one, e.words_clean w (he ▸ hw)]
      rw [hclean.mpr hzero, hwords, entryFields_words]
  · have hfind : s.retention.slots.find? (fun x => decide (s.port.cursor ≤ x.seq)) = none :=
      List.find?_eq_none.mpr fun y hy => by simpa using hbelow y hy
    have hempty (seq : Nat) (status : ReadStatus) : entryImageBytes seq status [] = uField 4 seq ++ byte status.code :: List.replicate 56 0 := rfl
    unfold State.nextEntryImage
    rw [hfind]
    dsimp only
    refine ⟨?_, fun e rest slot hqueue hbusy => ?_, fun hidle => ?_⟩
    · split <;> rfl
    · rw [hqueue, hbusy]
      exact hempty _ _
    · rw [hidle]
      cases s.archive.queue <;> exact hempty _ _

/-- Which entry an image shows is a matter of the ring, the cursor and the queue. -/
theorem State.ShowsEntry.of_eq {s t : State} {image : List Byte} {entry : Option Nat} (h : s.ShowsEntry image entry)
    (hretention : t.retention = s.retention) (harchive : t.archive = s.archive) (hcursor : t.port.cursor = s.port.cursor) :
    t.ShowsEntry image entry := by
  obtain ⟨hlength, hpresent, habsent⟩ := h
  exact ⟨hlength, by rwa [hretention, hcursor], by rwa [hretention, harchive, hcursor]⟩

theorem State.nextEntryImage_freeReads {s : State} (h : ∀ x ∈ s.retention.slots, ∀ w ∈ x.words, w.errors ≤ 2) :
    s.nextEntryImage.freeReads = s.freeReads := by
  unfold State.nextEntryImage
  split
  next x hfind => exact (readWords_eq (h x (List.mem_of_find?_eq_some hfind)) _).2
  next => split <;> rfl

/-! ### The stream (R172, R178) -/

section

variable {s : State} {bytes : Nat} {image : List Byte} (hrunning : s.phase = .running) (hstream : s.port.command = some .readEntries)
  (himage : s.port.image = some image)

include hrunning hstream himage

theorem exec_entryImage : exec (.entryImage bytes) s = .next (State.clock (min bytes s.port.bytesLeft) s) := by
  dsimp only [exec, execEntryImage]
  rw [atWork_running s _ hrunning, if_pos ⟨hstream, by simp [himage]⟩]

omit hrunning hstream in
theorem Port.bytesLeft_between (hbetween : image.length ≤ s.port.imageIndex) : s.port.bytesLeft = s.port.leads + 61 :=
  if_pos ((Port.betweenImages_iff _).mpr (by rw [himage]; exact hbetween))

omit hrunning hstream in
theorem Port.bytesLeft_inside (hinside : s.port.imageIndex < image.length) : s.port.bytesLeft = image.length - s.port.imageIndex := by
  have hnot : s.port.betweenImages = false := (Port.betweenImages_false _).mpr (by rw [himage]; exact hinside)
  simp [Port.bytesLeft, hnot, himage]

end

/-- What the station shows once an image has been formed at it. -/
theorem State.formImage_shows (s : State) : s.formImage.ShowsEntry s.nextEntryImage.bytes s.formImage.port.sending :=
  s.nextEntryImage_shows.of_eq rfl rfl rfl

theorem Port.imageSent_cursor (p : Port) (oldestKept : Nat) :
    (p.imageSent oldestKept).cursor = (match p.sending with | some q => max (q + 1) oldestKept | none => p.cursor) := by
  unfold Port.imageSent
  split <;> simp [*]

theorem Port.imageSent_lastResult (p : Port) (oldestKept : Nat) : (p.imageSent oldestKept).lastResult = p.lastResult := by
  unfold Port.imageSent
  split <;> rfl

/-- Clocking an image's bytes out to its end: the cursor moves past the entry shown, and the next image stands whole. -/
structure NextImage (s t : State) : Prop where
  cursor : t.port.cursor = (match s.port.sending with
    | some q => max (q + 1) s.retention.oldestKept
    | none => s.port.cursor)
  image : ∃ next, t.port.image = some next ∧ t.ShowsEntry next t.port.sending
  index : t.port.imageIndex = 0
  leads : t.port.leads = 0
  result : t.port.lastResult = s.port.lastResult
  retention : t.retention = s.retention
  archive : t.archive = s.archive
  freeReads : (∀ x ∈ s.retention.slots, ∀ w ∈ x.words, w.errors ≤ 2) → t.freeReads = s.freeReads

theorem State.clock_nextImage {s : State} {image : List Byte} {n : Nat} (hstream : s.port.command = some .readEntries)
    (himage : s.port.image = some image) (hleads : s.port.leads = 0) (hn : 0 < n) (hend : s.port.imageIndex + n = image.length) :
    NextImage s (State.clock n s) := by
  rw [State.clock_imageEnd n s hleads hn (by rw [himage]; exact hend), State.due_entries _ (by simpa using hstream) (by simp [himage])
    (by simpa using hleads) (by simp [Port.betweenImages])]
  refine ⟨?_, ⟨_, rfl, State.formImage_shows _⟩, rfl, rfl, ?_, rfl, rfl, fun h => ?_⟩
  · exact Port.imageSent_cursor _ _
  · exact Port.imageSent_lastResult _ _
  · exact State.nextEntryImage_freeReads (s := s.setPort _) h

theorem State.writeStart_port_eq (s : State) :
    s.writeStart.port = { s.port with cursor := s.writeStart.port.cursor, notices := s.writeStart.port.notices } := by
  unfold State.writeStart State.replaceOldest State.beginWrite
  repeat' split
  all_goals rfl

theorem State.writeComplete_port_eq (s : State) :
    s.writeComplete.port = { s.port with cursor := s.writeComplete.port.cursor, notices := s.writeComplete.port.notices } := by
  unfold State.writeComplete
  dsimp only
  repeat' split
  all_goals rfl

/-- Inside an image the byte that is due is the image's, and outside RESPONSE 0x00. -/
theorem State.outByte_inside {s : State} {image : List Byte} {n : Nat} (himage : s.port.image = some image) (hleads : s.port.leads = 0)
    (hin : s.port.imageIndex + n < image.length) :
    (State.clock n s).outByte = if s.port.trans = .response then image.getD (s.port.imageIndex + n) 0 else 0 := by
  split
  next hresponse =>
    rw [State.outByte_image n s hresponse hleads (by rw [himage]; exact hin), himage]
    rfl
  next hquiet => exact if_neg fun h => hquiet (by simpa using h.1)

/-- The bits of an image in hand are sent whatever becomes of cursor and notices meanwhile. -/
theorem State.dataOut_eq_inside {s t : State} {image : List Byte} {edge : Nat}
    (hport : t.port = { s.port with cursor := t.port.cursor, notices := t.port.notices }) (hpins : t.pins = s.pins) (hphase : t.phase = s.phase)
    (himage : s.port.image = some image) (hleads : s.port.leads = 0) (hin : s.port.imageIndex + edge / 8 < image.length) :
    t.dataOut edge = s.dataOut edge := by
  have htrans : t.port.trans = s.port.trans := by rw [hport]
  have hindex : t.port.imageIndex = s.port.imageIndex := by rw [hport]
  have himage' : t.port.image = some image := by rw [hport]; exact himage
  have hleads' : t.port.leads = 0 := by rw [hport]; exact hleads
  have hrunning : t.running = s.running := by unfold State.running; rw [hphase]
  unfold State.dataOut
  rw [State.outByte_inside himage hleads hin, State.outByte_inside himage' hleads' (by rw [hindex]; exact hin), htrans, hindex, hpins, hrunning]

/-- Settles O44: the stream of entry images follows the cursor, each image formed whole where its first byte is due. -/
theorem entryImagesFollowCursor : Obligations.EntryImagesFollowCursor := by
  refine ⟨fun s hrunning hcommand hhold => ?begin, fun s bytes before hrunning hstream himage hbetween hleads => ⟨fun hlt => ?lead, fun hle => ?first⟩,
    fun s bytes image hrunning hstream himage hbetween hinside => ?goesOn, fun s bytes image hrunning hstream himage hinside hleads => ?inside,
    fun s c hc hrunning => ?writes⟩
  case begin =>
    dsimp only [exec]
    exact ⟨_, (State.takes_of_command hrunning hcommand .readEntries []).execute_whole (Nat.zero_le _) hhold, rfl, rfl, rfl, rfl, rfl, rfl, rfl,
      rfl⟩
  case lead =>
    rw [exec_entryImage hrunning hstream himage, Port.bytesLeft_between himage hbetween, Nat.min_eq_left (by omega),
      State.clock_leads _ _ hlt]
  case first =>
    obtain ⟨k, rfl⟩ : ∃ k, bytes = s.port.leads + k := ⟨bytes - s.port.leads, by omega⟩
    have hformed (n : Nat) : State.clock (s.port.leads + n) s = State.clock n (s.setPort { s.port with leads := 0 }).formImage :=
      State.clock_entry n s hstream (by simp [himage]) ((Port.betweenImages_iff _).mpr (by rw [himage]; exact hbetween)) hleads
    have hshows : s.ShowsEntry s.nextEntryImage.bytes s.nextEntryImage.entry := s.nextEntryImage_shows
    have hlength := s.nextEntryImage_length
    have hfree : (∀ x ∈ s.retention.slots, ∀ w ∈ x.words, w.errors ≤ 2) →
        (s.setPort { s.port with leads := 0 }).formImage.freeReads = s.freeReads := State.nextEntryImage_freeReads
    have hsent : s.pins.selectLow = true → s.port.trans = .response →
        (∀ edge, edge < 8 * s.port.leads → s.dataOut edge = some false) ∧
        ∀ edge, edge < 488 → s.dataOut (8 * s.port.leads + edge) =
          some ((s.nextEntryImage.bytes.getD (edge / 8) 0).getLsbD (7 - edge % 8)) := by
      refine fun hselect hresponse => ⟨fun edge hedge => ?_, fun edge hedge => ?_⟩
      · rw [State.dataOut_response s edge hrunning hselect hresponse, State.outByte_leads _ _ (by omega)]
        simp
      · have hbits : (s.setPort { s.port with leads := 0 }).formImage.dataOut edge = some ((State.clock (edge / 8)
            (s.setPort { s.port with leads := 0 }).formImage).outByte.getLsbD (7 - edge % 8)) :=
          State.dataOut_response _ edge hrunning hselect hresponse
        have hbyte : (State.clock (edge / 8) (s.setPort { s.port with leads := 0 }).formImage).outByte =
            s.nextEntryImage.bytes.getD (0 + edge / 8) 0 :=
          (State.outByte_inside rfl rfl (show 0 + edge / 8 < s.nextEntryImage.bytes.length by omega)).trans (if_pos hresponse)
        rw [← State.dataOut_clock, show s.port.leads = s.port.leads + 0 from rfl, hformed, State.clock, hbits, hbyte, Nat.zero_add]
    rw [exec_entryImage hrunning hstream himage, Port.bytesLeft_between himage hbetween, Nat.add_min_add_left, hformed]
    rcases Nat.lt_or_ge k 61 with hin | hend
    · rw [Nat.min_eq_left hin.le, State.clock_image k _ rfl (by
        show 0 + k < s.nextEntryImage.bytes.length
        omega)]
      refine ⟨_, _, _, rfl, hshows, fun _ => ⟨rfl, rfl, ?_, rfl⟩, fun hge => absurd hin (by omega), hfree, hsent, rfl, rfl, rfl, rfl⟩
      rw [Nat.add_sub_cancel_left]
      exact Nat.zero_add k
    · rw [Nat.min_eq_right hend]
      have hnext : NextImage (s.setPort { s.port with leads := 0 }).formImage
          (State.clock 61 (s.setPort { s.port with leads := 0 }).formImage) :=
        State.clock_nextImage hstream rfl rfl (by decide) (by
          show 0 + 61 = s.nextEntryImage.bytes.length
          omega)
      obtain ⟨hcursor, ⟨next, hnextImage, hnextShows⟩, hindex, hnoLeads, hresult, hretention, harchive, hnextFree⟩ := hnext
      exact ⟨_, _, _, rfl, hshows, fun hlt => absurd hlt (by omega), fun _ => ⟨next, hnextImage, hnextShows, hindex, hcursor⟩,
        fun h => (hnextFree h).trans (hfree h), hsent, hnoLeads, hretention, harchive, hresult⟩
  case goesOn =>
    refine ⟨_, exec_entryImage hrunning hstream himage, fun edge => ?_⟩
    have hleft : bytes ≤ s.port.bytesLeft := by
      rcases Nat.lt_or_ge s.port.imageIndex image.length with hin | hout
      · rw [Port.bytesLeft_inside himage hin]
        have := hinside hin
        omega
      · rw [Port.bytesLeft_between himage hout]
        exact hbetween hout
    rw [Nat.min_eq_left hleft, State.dataOut_clock]
  case inside =>
    have hsent : s.pins.selectLow = true → s.port.trans = .response → ∀ edge, edge < 8 * (image.length - s.port.imageIndex) →
        s.dataOut edge = some ((image.getD (s.port.imageIndex + edge / 8) 0).getLsbD (7 - edge % 8)) := by
      intro hselect hresponse edge hedge
      rw [State.dataOut_response s edge hrunning hselect hresponse,
        State.outByte_image _ s hresponse hleads (by rw [himage]; simp only [Option.getD_some]; omega), himage]
      rfl
    rw [exec_entryImage hrunning hstream himage, Port.bytesLeft_inside himage hinside]
    rcases Nat.lt_or_ge (s.port.imageIndex + bytes) image.length with hin | hend
    · rw [Nat.min_eq_left (by omega), State.clock_image bytes s hleads (by rw [himage]; exact hin)]
      exact ⟨_, rfl, rfl, rfl, rfl, hleads, fun _ => rfl, fun hge => absurd hin hge.not_gt, hsent⟩
    · rw [Nat.min_eq_right (by omega)]
      obtain ⟨hcursor, hnext, hindex, hnoLeads, hresult, hretention, harchive, hfree⟩ :=
        State.clock_nextImage (n := image.length - s.port.imageIndex) hstream himage hleads (by omega) (by omega)
      exact ⟨_, rfl, hretention, harchive, hresult, hnoLeads, fun hlt => absurd hlt hend.not_gt, fun _ => ⟨hcursor, hnext, hindex, hfree⟩, hsent⟩
  case writes =>
    obtain rfl | rfl := hc
    · exact ⟨_, atWork_running s _ hrunning, s.writeStart_port_eq, fun image himage hin hleads edge hedge =>
        State.dataOut_eq_inside s.writeStart_port_eq (by simp) (by simp) himage hleads (by omega)⟩
    · exact ⟨_, atWork_running s _ hrunning, s.writeComplete_port_eq, fun image himage hin hleads edge hedge =>
        State.dataOut_eq_inside s.writeComplete_port_eq (by simp) (by simp) himage hleads (by omega)⟩

end Sys2Proof.Machine
end

section
/-! SUPPORT. The start (R200 to R202): what it begins with, and what its completion leaves. -/

namespace Sys2Proof.Machine

/-! ### A start begins -/

/-- What every start leaves of the blocks, whether it is held, proceeds, or the supply is lost (R200, R201). -/
structure Begun (s t : State) : Prop where
  retention : t.retention = s.retention
  stored : t.store.stored = s.store.stored
  notWriting : t.store.writing = none
  queue : t.archive.queue = []
  writing : t.archive.writing = none
  drive : t.mark.drive = .released
  tx : t.line.tx = none
  window : t.line.summaryDriving = false
  chain : t.member.chainTx = none
  attn : t.attn = false
  rows : t.table.rows = []
  raised : t.raised = 0
  trans : t.port.trans = .idle
  result : t.port.lastResult = .none
  hold : t.port.hold = .none
  notices : t.port.notices = 0
  cursor : t.port.cursor = s.retention.oldestKept
  bias : ∀ i : Channel, t.biasOutput i = 0

theorem State.blank_begun (s : State) {p : Phase} (hp : p ≠ .running) (g : Setup) : Begun s ((s.blank p).setSetup g) where
  retention := rfl
  stored := rfl
  notWriting := rfl
  queue := rfl
  writing := rfl
  drive := rfl
  tx := rfl
  window := rfl
  chain := rfl
  attn := by simp [State.attn, hp]
  rows := rfl
  raised := rfl
  trans := rfl
  result := rfl
  hold := rfl
  notices := rfl
  cursor := rfl
  bias _ := by simp [State.biasOutput, State.running, hp]

theorem State.beginStart_begun (s : State) : Begun s s.beginStart := by
  unfold State.beginStart
  split
  · exact s.blank_begun (p := .held) (by decide) Setup.halted
  · exact s.blank_begun (by decide) _

theorem Begun.of_eq {s u t : State} (h : Begun u t) (hretention : u.retention = s.retention) (hstored : u.store.stored = s.store.stored) :
    Begun s t :=
  { h with
    retention := h.retention.trans hretention
    stored := h.stored.trans hstored
    cursor := h.cursor.trans (by rw [hretention]) }

/-- The facts of a start in the order in which section 11.3 lists them, and what is said beside them. -/
theorem Begun.facts {s t : State} (h : Begun s t) {rest : Prop} (hrest : rest) :
    t.retention = s.retention ∧ t.store.stored = s.store.stored ∧ t.store.writing = none ∧
      t.archive.queue = [] ∧ t.archive.writing = none ∧ t.mark.drive = .released ∧ t.line.tx = none ∧
      t.line.summaryDriving = false ∧ t.member.chainTx = none ∧ t.attn = false ∧ t.table.rows = [] ∧ t.raised = 0 ∧
      t.port.trans = .idle ∧ t.port.lastResult = .none ∧ t.port.hold = .none ∧ t.port.notices = 0 ∧
      t.port.cursor = s.retention.oldestKept ∧ (∀ i : Channel, t.biasOutput i = 0) ∧ rest :=
  ⟨h.retention, h.stored, h.notWriting, h.queue, h.writing, h.drive, h.tx, h.window, h.chain, h.attn, h.rows, h.raised, h.trans, h.result,
    h.hold, h.notices, h.cursor, h.bias, hrest⟩

/-- Where a start proceeds it takes the stored record's settings. -/
theorem State.beginStart_setup_of_starting (s : State) (h : s.beginStart.phase = .starting) :
    s.beginStart.setup = if recordMatches s.store.stored then acceptedSetup s.store.stored else Setup.halted := by
  rw [State.beginStart_phase] at h
  rw [State.beginStart_setup]
  split at h
  · cases h
  · next hreleased => rw [if_neg hreleased, setupOfRecord]

/-- Settles O53: every start leaves the same, is held while RESET stays asserted, and else takes the stored record's settings. -/
theorem startsBeginAndAreHeld : Obligations.StartsBeginAndAreHeld := by
  refine ⟨fun s c hc => ?_, fun s hoff => ?_, fun s hheld => ?_⟩
  · obtain rfl | ⟨rfl, hon⟩ | ⟨rfl, hheld⟩ | ⟨rfl, hrunning, hwait, hclosed, hqueue⟩ | rfl := hc
    · exact ⟨_, rfl, (((s.setPins { s.pins with supply := true }).beginStart_begun).of_eq rfl rfl).facts
        ⟨by simp only [State.beginStart_phase, State.beginStart_pins, reduceCtorEq, if_false], by simp, State.beginStart_setup_of_starting _⟩⟩
    · exact ⟨_, congrArg Host.Outcome.next (if_neg hon), (((s.setPins { s.pins with resetAsserted := true }).beginStart_begun).of_eq rfl rfl).facts
        ⟨by simp, by simp, State.beginStart_setup_of_starting _⟩⟩
    · exact ⟨_, congrArg Host.Outcome.next (if_pos hheld), (((s.setPins { s.pins with resetAsserted := false }).beginStart_begun).of_eq rfl rfl).facts
        ⟨by simp, by simp, State.beginStart_setup_of_starting _⟩⟩
    · exact ⟨_, (atWork_running s _ hrunning).trans (congrArg Host.Outcome.next (if_pos ⟨hwait, hclosed, hqueue⟩)),
        s.beginStart_begun.facts ⟨by simp, by simp, State.beginStart_setup_of_starting _⟩⟩
    · exact ⟨_, rfl, (((s.setPins { s.pins with supply := false }).blank_begun (p := .off) (by decide) Setup.halted).of_eq rfl rfl).facts
        ⟨by simp, by simp, fun h => nomatch h⟩⟩
  · exact congrArg Host.Outcome.next (if_pos hoff)
  · exact congrArg Host.Outcome.next (if_neg hheld)

/-! ### A start completes -/

theorem MarkUnit.afterStart_boundary (asserted : Bool) :
    ((MarkUnit.afterStart.rebase 0).boundary .counted false asserted false) = MarkUnit.afterStart := by
  cases asserted <;> rfl

theorem Member.leads_none (m : Member) : m.leads none = false := by
  unfold Member.leads
  cases m.number <;> simp

/-- The first boundary finds the mark unit as the start leaves it, and leaves it so. -/
theorem State.markBoundary_afterStart {s : State} {v : BoundaryView} (hmark : s.mark = .afterStart) (hkind : v.kind = .counted)
    (hcause : v.cause = none) (hshift : v.shift = 0) : s.markBoundary v = s := by
  unfold State.markBoundary
  split
  · rfl
  · dsimp only
    rw [hmark, hkind, hcause, hshift, show MarkUnit.afterStart.nextLeader = none from rfl, Member.leads_none]
    rw [show (none : Option (MarkKind × Int)).any (fun c => decide (c.1 = .fallback)) = false from rfl, MarkUnit.afterStart_boundary,
      show MarkUnit.afterStart.contention = false from rfl, State.raiseIf_false, ← hmark]
    rfl

theorem anyChannel_eq_true_iff {p : Channel → Bool} : anyChannel p = true ↔ ∃ i, p i = true := by
  rw [channel_exists_iff]
  simp only [anyChannel, Bool.or_eq_true, or_assoc]

theorem anyChannel_eq_false {p : Channel → Bool} (h : ∀ i, p i = false) : anyChannel p = false := by
  simp [anyChannel, h]

section

variable (s : State) (x : StartSamples)

/-- The station as the first boundary finds it: the values after a start, SETUP_FAULT risen where it holds (R197), the length fixed. -/
def State.atFirstBoundary : State :=
  let started := (s.startValues x).raiseIf s.setupFaultHolds .setupFault
  started.setTb started.tb.fixLength

/-- How the first boundary is seen (R26, R129). -/
def State.firstView : BoundaryView :=
  { kind := .counted, flush := true, asserted := s.pins.markAsserted, cause := none, shift := 0 }

theorem State.completeStart_eq :
    s.completeStart x = (((((s.atFirstBoundary x).lineBoundary s.firstView false).openRow s.firstView).channelBoundary
      s.firstView).correctionBoundary).latchFrom ((s.startValues x).raiseIf s.setupFaultHolds .setupFault) := by
  have hmark : (s.atFirstBoundary x).markBoundary s.firstView = s.atFirstBoundary x := State.markBoundary_afterStart rfl rfl rfl rfl
  have hview : (s.startValues x).pins.markAsserted = s.pins.markAsserted := rfl
  rw [← hmark]
  rfl

theorem State.completeStart_tb :
    (s.completeStart x).tb = (Timebase.afterStart (driftLookup s.retention.drift x.oscTemp 0) x.oscTemp).fixLength := by
  rw [State.completeStart_eq]
  simp [State.atFirstBoundary]
  rfl

theorem State.completeStart_mark : (s.completeStart x).mark = .afterStart := by
  rw [State.completeStart_eq]
  simp [State.atFirstBoundary]

theorem State.completeStart_line : (s.completeStart x).line = .afterStart := by
  rw [State.completeStart_eq]
  simp [State.atFirstBoundary, State.lineBoundary]
  rfl

theorem State.completeStart_member :
    (s.completeStart x).member =
      Member.afterStart (headAtStart s.setup x.head) (numberAtStart s.setup x.head) (stateAtStart s.setup (numberAtStart s.setup x.head)) := by
  rw [State.completeStart_eq]
  simp [State.atFirstBoundary, State.lineBoundary]
  rfl

theorem State.completeStart_table : (s.completeStart x).table = { rows := [Row.opened 0 none none], early := none } := by
  rw [State.completeStart_eq]
  rfl

theorem State.completeStart_boundary :
    s.completeStart x = ((s.atFirstBoundary x).blocksAtBoundary s.firstView false).latchFrom
      ((s.startValues x).raiseIf s.setupFaultHolds .setupFault) := rfl

theorem State.completeStart_front (i : Channel) :
    (s.completeStart x).front[i] = FrontEnd.afterStart (biasAtStart s.setup.channels[i].kind s.retention.biasSlots[i]) := by
  have hfront : (s.atFirstBoundary x).front =
      Vector.ofFn fun i : Fin 4 => FrontEnd.afterStart (biasAtStart s.setup.channels[i].kind s.retention.biasSlots[i]) := rfl
  rw [State.completeStart_boundary, State.latchFrom_front, State.blocksAtBoundary_front_eq, if_pos (show s.firstView.flush = true from rfl),
    mapAll_get, hfront]
  simp [FrontEnd.flush, FrontEnd.afterStart]

theorem State.completeStart_dec (i : Channel) :
    (s.completeStart x).dec[i] = { stage1 := [], stage1Count := 0, stage2 := [], value := none
                                   warming := decide (s.setup.channels[i].kind ≠ .off) } := by
  have hdec : (s.atFirstBoundary x).dec = Vector.replicate 4 DecChannel.afterStart := rfl
  have hsetup : (s.atFirstBoundary x).setup = s.setup := rfl
  rw [State.completeStart_boundary, State.latchFrom_dec, State.blocksAtBoundary_dec_eq, mapAllIdx_get, hdec, hsetup,
    show s.firstView.flush = true from rfl]
  unfold DecChannel.boundary
  split
  next hoff =>
    rw [decide_eq_false (not_not_intro hoff)]
    exact Vector.getElem_replicate _
  next hon =>
    rw [decide_eq_true hon]
    rfl

theorem State.completeStart_corr (i : Channel) : (s.completeStart x).corr[i] = .afterStart s.setup.channels[i] := by
  have hcorr : (s.atFirstBoundary x).corr = mapAll s.setup.channels CorrChannel.afterStart := rfl
  have hvalue : ((s.atFirstBoundary x).blocksAtBoundary s.firstView false).dec[i].value = none :=
    congrArg DecChannel.value (s.completeStart_dec x i)
  rw [State.completeStart_boundary, State.latchFrom_corr, State.blocksAtBoundary_corr_get, hvalue, hcorr, mapAll_get]
  rfl

theorem State.completeStart_events :
    (s.completeStart x).events =
      (EventInputs.afterStart (Vector.ofFn fun i : Fin 2 => assertedLevel s.setup.inputs[i] (#v[x.ev0, x.ev1] : Vector Bool 2)[i])).sample
        s.setup := by
  rw [State.completeStart_boundary, State.latchFrom_events, State.blocksAtBoundary_events_eq]
  rfl

theorem State.completeStart_filtered (i : Fin 2) :
    (s.completeStart x).events.filtered[i] = ((#v[x.ev0, x.ev1] : Vector Bool 2)[i] != s.setup.inputs[i].assertedLow) := by
  rw [State.completeStart_events]
  simp [EventInputs.sample, EventInputs.afterStart, assertedLevel]

theorem State.completeStart_sampled (i : Fin 2) :
    (s.completeStart x).events.sampled[i] =
      (decide (s.setup.inputs[i].function = .attend) && (s.completeStart x).events.filtered[i]) := by
  rw [State.completeStart_events]
  simp only [EventInputs.sample, EventInputs.afterStart, mapAllIdx_get]
  split
  next hattend => rw [decide_eq_true hattend, Bool.true_and]
  next hother =>
    rw [decide_eq_false hother, Bool.false_and]
    exact Vector.getElem_replicate _

theorem State.completeStart_setupFaultHolds : (s.completeStart x).setupFaultHolds = s.setupFaultHolds := by
  unfold State.setupFaultHolds
  rw [State.completeStart_setup]

/-- What holds at a start: SETUP_FAULT by the record, WARMING by the channels at work, ATTENDED by the inputs. -/
theorem State.completeStart_holding :
    (s.completeStart x).holding = Condition.only .warming (s.completeStart x).warmingHolds |||
      Condition.only .attended (s.completeStart x).attendedHolds ||| Condition.only .setupFault s.setupFaultHolds := by
  have hsaturated : (s.completeStart x).saturatedHolds = false := anyChannel_eq_false fun i => by
    rw [State.completeStart_front]
    rfl
  have hgliding : (s.completeStart x).glidingHolds = false := anyChannel_eq_false fun i => by
    rw [State.completeStart_corr]
    rfl
  have hstale : (s.completeStart x).staleTempHolds = false := anyChannel_eq_false fun i => by
    rw [State.completeStart_corr]
    rfl
  have hchain : (s.completeStart x).chainLostHolds = false := by
    unfold State.chainLostHolds
    rw [State.completeStart_member]
    rfl
  have hnone (c : Condition) : Condition.only c false = 0#16 := rfl
  unfold State.holding
  rw [hsaturated, hgliding, hstale, hchain, State.completeStart_setupFaultHolds, State.completeStart_check, show FieldCheck.afterStart.drift = false from rfl]
  simp only [hnone, BitVec.or_zero, BitVec.zero_or]

theorem State.startValues_holding (b : Bool) :
    ((s.startValues x).raiseIf b .setupFault).holding = Condition.only .setupFault s.setupFaultHolds := by
  have hsaturated : (s.startValues x).saturatedHolds = false := anyChannel_eq_false fun i => by
    simp [State.startValues, FrontEnd.afterStart]
  have hwarming : (s.startValues x).warmingHolds = false := rfl
  have hgliding : (s.startValues x).glidingHolds = false := anyChannel_eq_false fun i => by
    rw [State.startValues_corr, mapAll_get]
    rfl
  have hstale : (s.startValues x).staleTempHolds = false := anyChannel_eq_false fun i => by
    rw [State.startValues_corr, mapAll_get]
    rfl
  have hattended : (s.startValues x).attendedHolds = false := by
    simp [State.attendedHolds, State.startValues, EventInputs.afterStart]
  have hchain : (s.startValues x).chainLostHolds = false := rfl
  have hnone (c : Condition) : Condition.only c false = 0#16 := rfl
  show (s.startValues x).holding = _
  unfold State.holding
  rw [hsaturated, hwarming, hgliding, hstale, hattended, hchain, show (s.startValues x).check.drift = false from rfl]
  simp only [hnone, BitVec.or_zero, BitVec.zero_or]
  rfl

/-- The conditions that rise at a start, in the raised record and as notices. -/
theorem State.completeStart_rises :
    (s.completeStart x).raised = Condition.only .setupFault s.setupFaultHolds |||
        ((s.completeStart x).holding &&& ~~~Condition.only .setupFault s.setupFaultHolds) ∧
    (s.completeStart x).port = { Port.afterStart s.retention.oldestKept with
      notices := Condition.only .setupFault s.setupFaultHolds |||
        ((s.completeStart x).holding &&& ~~~Condition.only .setupFault s.setupFaultHolds) } := by
  obtain ⟨u, hu, hraised, hport⟩ : ∃ u : State,
      s.completeStart x = u.latchFrom ((s.startValues x).raiseIf s.setupFaultHolds .setupFault) ∧
      u.raised = 0#16 ||| Condition.only .setupFault s.setupFaultHolds ∧
      u.port = { Port.afterStart s.retention.oldestKept with notices := 0#16 ||| Condition.only .setupFault s.setupFaultHolds } :=
    ⟨_, s.completeStart_eq x, rfl, rfl⟩
  have hholding : (s.completeStart x).holding = u.holding := by
    rw [hu]
    rfl
  rw [BitVec.zero_or] at hraised hport
  rw [hholding, hu]
  constructor
  · show u.raised ||| (u.holding &&& ~~~((s.startValues x).raiseIf s.setupFaultHolds .setupFault).holding) = _
    rw [State.startValues_holding, hraised]
  · show { u.port with notices := u.port.notices |||
      (u.holding &&& ~~~((s.startValues x).raiseIf s.setupFaultHolds .setupFault).holding) } = _
    rw [State.startValues_holding, hport]

/-- Which bits rise: SETUP_FAULT, WARMING and ATTENDED, each where it holds. -/
theorem risenAtStart_bit : ∀ (warming attended fault : Bool) (j : Fin 16),
    (Condition.only .setupFault fault ||| ((Condition.only .warming warming ||| Condition.only .attended attended |||
      Condition.only .setupFault fault) &&& ~~~Condition.only .setupFault fault)).getLsbD j.val =
    ((decide (j.val = 15) && fault) || (decide (j.val = 6) && warming) || (decide (j.val = 9) && attended)) := by decide

/-- A condition that rises at a start, by its bit. -/
theorem State.completeStart_bit (j : Fin 16) :
    (s.completeStart x).raised.getLsbD j.val = (s.completeStart x).port.notices.getLsbD j.val ∧
    (s.completeStart x).port.notices.getLsbD j.val =
      ((decide (j.val = 15) && s.setupFaultHolds) || (decide (j.val = 6) && (s.completeStart x).warmingHolds) ||
        (decide (j.val = 9) && (s.completeStart x).attendedHolds)) := by
  obtain ⟨hraised, hport⟩ := s.completeStart_rises x
  have hbit := risenAtStart_bit (s.completeStart x).warmingHolds (s.completeStart x).attendedHolds s.setupFaultHolds j
  rw [← State.completeStart_holding] at hbit
  have hnotices : (s.completeStart x).port.notices = (s.completeStart x).raised := by rw [hraised, hport]
  exact ⟨by rw [hnotices], by rw [hnotices, hraised, hbit]⟩

theorem State.completeStart_warming_iff :
    (s.completeStart x).warmingHolds = true ↔ ∃ i : Channel, s.setup.channels[i].kind ≠ .off := by
  unfold State.warmingHolds
  rw [anyChannel_eq_true_iff]
  exact exists_congr fun i => by rw [State.completeStart_dec, decide_eq_true_eq]

theorem State.completeStart_attended_iff :
    (s.completeStart x).attendedHolds = true ↔
      ∃ i : Fin 2, s.setup.inputs[i].function = .attend ∧ (s.completeStart x).events.filtered[i] = true := by
  have hinput (i : Fin 2) : (s.setup.inputs[i].function == .attend && (s.completeStart x).events.sampled[i]) = true ↔
      s.setup.inputs[i].function = .attend ∧ (s.completeStart x).events.filtered[i] = true := by
    rw [State.completeStart_sampled, Bool.and_eq_true, Bool.and_eq_true, decide_eq_true_eq, beq_iff_eq, ← and_assoc, and_self]
  unfold State.attendedHolds
  rw [State.completeStart_setup, Bool.or_eq_true, Fin.exists_fin_two]
  exact or_congr (hinput 0) (hinput 1)

/-- The bias step that a start recovers (R111). -/
theorem biasAtStart_cases (kind : ChannelKind) (slot : Option Int) :
    (∀ b, kind.isVector = true → slot = some b → -15 ≤ b → b ≤ 15 → biasAtStart kind slot = b) ∧
    (kind.isVector = false ∨ slot = none → biasAtStart kind slot = 0) := by
  constructor
  · rintro b hvector rfl hlow hhigh
    simp [biasAtStart, hvector, hlow, hhigh]
  · rintro (hother | rfl)
    · cases slot <;> simp [biasAtStart, hother]
    · rfl

end

theorem samplesHead_iff (setup : Setup) : samplesHead setup = true ↔ setup.rejected = false ∧ setup.fixedNumber = none := by
  simp [samplesHead]

theorem headAtStart_eq (setup : Setup) (head : Bool) :
    headAtStart setup head = decide (setup.rejected = false ∧ setup.fixedNumber = none ∧ head = true) := by
  rw [Bool.eq_iff_iff, decide_eq_true_eq, headAtStart, Bool.and_eq_true, samplesHead_iff, and_assoc]

theorem stateAtStart_eq (setup : Setup) (number : Option Station) :
    stateAtStart setup number = if setup.rejected then .halted else if number = none then .unnumbered else .joining := by
  cases number <;> rfl

theorem State.completeStart_pins (s : State) (x : StartSamples) :
    (s.completeStart x).pins = { s.pins with
      head := if s.setup.rejected = false ∧ s.setup.fixedNumber = none then x.head else s.pins.head, eventHigh := #v[x.ev0, x.ev1] } := by
  have hpins : (s.completeStart x).pins = { s.pins with
      head := if samplesHead s.setup then x.head else s.pins.head, eventHigh := #v[x.ev0, x.ev1] } := by
    simp [State.completeStart]
    rfl
  simpa only [samplesHead_iff] using hpins

/-- Settles O54: a start completes with every block at its value after a start, at the first own boundary, and what holds then rises. -/
theorem startCompletesAtFirstBoundary : Obligations.StartCompletesAtFirstBoundary := by
  intro s x hstarting
  have hbit := s.completeStart_bit x
  refine ⟨s.completeStart x, Row.opened 0 none none, congrArg Host.Outcome.next (if_pos hstarting), s.completeStart_phase x,
    s.completeStart_setup x, by rw [State.completeStart_store], s.completeStart_retention x, ?tb, s.completeStart_mark x,
    s.completeStart_line x, ?member, ?number, ?state, ?roster, s.completeStart_table x, rfl, rfl, rfl, rfl, rfl, rfl, rfl,
    fun k => Vector.getElem_replicate _, ?front, ?pins, ?edge, fun i => ⟨?filtered, s.completeStart_sampled x i⟩, ?restart,
    fun i => ⟨s.completeStart_dec x i, s.completeStart_corr x i⟩, s.completeStart_check x, s.completeStart_archive x, ?port, ?fault,
    s.completeStart_warming_iff x, ?warming, s.completeStart_attended_iff x, ?attended, ?only⟩
  case tb =>
    rw [State.completeStart_tb]
    simp [Timebase.fixLength, Timebase.afterStart, Config.nominalEpoch, maxCount32]
  case member =>
    rw [State.completeStart_member, ← headAtStart_eq]
    rfl
  case number =>
    rw [State.completeStart_member]
    rfl
  case state =>
    rw [State.completeStart_member]
    exact stateAtStart_eq _ _
  case roster =>
    rw [State.completeStart_member]
    exact fun k => Vector.getElem_replicate _
  case front =>
    intro i
    rw [State.completeStart_front]
    exact ⟨rfl, biasAtStart_cases _ _⟩
  case pins => exact s.completeStart_pins x
  case edge =>
    rw [State.completeStart_events]
    rfl
  case filtered =>
    rw [State.completeStart_pins]
    exact s.completeStart_filtered x i
  case restart =>
    rw [State.completeStart_boundary, State.latchFrom_restartPending, State.blocksAtBoundary_restartPending_eq]
  case port =>
    rw [(s.completeStart_rises x).2]
    rfl
  case fault =>
    intro h
    rw [State.completeStart_setupFaultHolds] at h
    obtain ⟨hraised, hnotices⟩ := hbit 15
    have hset := hnotices.trans (show _ = true by simp [h])
    exact ⟨hset, hraised.trans hset⟩
  case warming =>
    intro h
    obtain ⟨hraised, hnotices⟩ := hbit 6
    have hset := hnotices.trans (show _ = true by simp [h])
    exact ⟨hset, hraised.trans hset⟩
  case attended =>
    intro h
    obtain ⟨hraised, hnotices⟩ := hbit 9
    have hset := hnotices.trans (show _ = true by simp [h])
    exact ⟨hset, hraised.trans hset⟩
  case only =>
    intro j hj hnotice
    rw [State.completeStart_setupFaultHolds]
    rw [(hbit ⟨j, hj⟩).2] at hnotice
    simp only [Bool.or_eq_true, Bool.and_eq_true, decide_eq_true_eq, or_assoc] at hnotice
    exact hnotice

end Sys2Proof.Machine
end

section
/-! SUPPORT. The timebase at an own boundary, a reference edge and the end of a reference window (R1 to R15, R19, R22 to R24). -/

namespace Sys2Proof.Machine

/-! ### What a latch raises -/

/-- A condition that holds after a command and did not before it has risen. -/
theorem State.latchFrom_rises {s t : State} {j : Nat} (hafter : t.holding.getLsbD j = true) (hbefore : s.holding.getLsbD j = false) :
    (t.latchFrom s).raised.getLsbD j = true ∧ (t.latchFrom s).port.notices.getLsbD j = true := by
  have hj : j < 16 := BitVec.lt_of_getLsbD hafter
  have hrise : (t.holding &&& ~~~s.holding).getLsbD j = true := by
    rw [BitVec.getLsbD_and, BitVec.getLsbD_not, hafter, hbefore]
    simp [hj]
  rw [State.latchFrom_raised, State.latchFrom_port, BitVec.getLsbD_or, BitVec.getLsbD_or, hrise, Bool.or_true, Bool.or_true]
  exact ⟨rfl, rfl⟩

/-- Three of the holding conditions, by their bits: WARMING, ATTENDED, CHAIN_LOST. -/
theorem State.holding_bits (s : State) :
    s.holding.getLsbD 6 = s.warmingHolds ∧ s.holding.getLsbD 9 = s.attendedHolds ∧ s.holding.getLsbD 14 = s.chainLostHolds := by
  unfold State.holding
  generalize s.saturatedHolds = saturated, s.warmingHolds = warming, s.glidingHolds = gliding, s.staleTempHolds = stale,
    s.attendedHolds = attended, s.check.drift = drift, s.chainLostHolds = lost, s.setupFaultHolds = fault
  revert saturated warming gliding stale attended drift lost fault
  decide

/-! ### The own boundary (R1, R2) -/

theorem Timebase.boundary_counted_eq (tb : Timebase) (drift : Vector DriftBin 16) (temp : Int) {f term : Int}
    (hf : f = if tb.timeState = .holdover then driftLookup drift temp tb.f else tb.f)
    (hterm : term = if tb.timeState = .holdover then 0 else tb.phaseTerm) :
    tb.boundary drift .counted 0 temp = { tb with
      tick := 0
      f := f
      epochNumber := match tb.held with
        | some h => h.number
        | none => tb.epochNumber + 1
      numberFrom := match tb.held with
        | some h => if h.byLabel then .label else .relabel
        | none => .counting
      held := none
      epochsSinceStart := min (tb.epochsSinceStart + 1) 0xFFFFFFFF
      oscTemp := temp
      epochLength := 10000000 + term + (f + tb.carry).tdiv 100
      carry := (f + tb.carry) - 100 * (f + tb.carry).tdiv 100
      phaseTerm := 0
      windowEdge := tb.nextWindowEdge
      nextWindowEdge := false } := by
  subst hf hterm
  unfold Timebase.boundary Timebase.fixLength
  simp only [BoundaryKind.isStep, Bool.false_or, decide_eq_true_eq, countUp_eq]
  rfl

theorem attendedHolds_iff (s : State) :
    s.attendedHolds = true ↔ ∃ i : Fin 2, s.setup.inputs[i].function = .attend ∧ s.events.sampled[i] = true := by
  unfold State.attendedHolds
  rw [Bool.or_eq_true, Bool.and_eq_true, Bool.and_eq_true, beq_iff_eq, beq_iff_eq, Fin.exists_fin_two]
  exact .rfl

theorem chained_iff (setup : Setup) (m : Member) :
    chained setup m = true ↔ setup.fixedNumber = none ∧ m.head = false ∧ m.state ≠ .halted := by
  simp [chained, and_assoc]

theorem Member.boundary_quiet (m : Member) (setup : Setup) (shift : Int) :
    (m.boundary (true && chained setup m) shift).quiet =
      if setup.fixedNumber = none ∧ m.head = false ∧ m.state ≠ .halted ∧ m.wordSeen = false then min (m.quiet + 1) 255 else m.quiet := by
  have hcond : (true && chained setup m && !m.wordSeen) = true ↔
      setup.fixedNumber = none ∧ m.head = false ∧ m.state ≠ .halted ∧ m.wordSeen = false := by
    rw [Bool.true_and, Bool.and_eq_true, chained_iff, Bool.not_eq_true', and_assoc, and_assoc]
  simp only [Member.boundary, hcond, countUp_eq]

/-- The row a counted own boundary opens carries the mark that came before it. -/
theorem State.countedBoundary_rows (s : State) (temp : Int) :
    (s.countedBoundary temp).table.rows =
      { epoch := (s.countedBoundary temp).tb.epochNumber, leader := (s.countedBoundary temp).mark.currentLeader
        markKind := (match s.table.early with
          | some (kind, _) => kind
          | none => .none)
        markPhase := (match s.table.early with
          | some (_, phase) => some (max (-32767) (min 32767 phase))
          | none => none)
        summaryOr := 0, cells := Vector.replicate 8 Cell.empty, isOpen := true, cut := false } ::
      (s.table.rows.take 3).map (fun r => { r with isOpen := false }) := by
  have hrecord (early : Option (MarkKind × Int)) : early.map (fun x => clampInt (-32767) 32767 x.2) =
      (match early with
        | some (_, phase) => some (max (-32767) (min 32767 phase))
        | none => none) := by
    cases early with
    | none => rfl
    | some x => exact congrArg some (clampInt_eq _ _ _ (by decide))
  rw [State.countedBoundary_tb]
  unfold State.countedBoundary
  rw [State.blocksAtBoundary_table_eq, State.blocksAtBoundary_mark_eq]
  simp only [EpochTable.openNew, Row.opened, hrecord, State.setTb_tb, State.setTb_table] <;> rfl

/-- Settles O4: an own boundary begins an epoch, for the timebase and for every block. -/
theorem ownBoundaryBeginsEpoch : Obligations.OwnBoundaryBeginsEpoch := by
  intro s temp hrunning
  have hearly : (s.countedBoundary temp).table.early = none := by
    unfold State.countedBoundary
    rw [State.blocksAtBoundary_table_eq]
    rfl
  have hmember : (s.countedBoundary temp).member = s.member.boundary (true && chained s.setup s.member) s.tb.epochLength :=
    State.blocksAtBoundary_member_eq _ _ _
  have hline : (s.countedBoundary temp).line = { s.line with summaryDriveEnd := 0, summaryRise := none, summaryStored := false } :=
    State.blocksAtBoundary_line_eq _ _ _
  have hport : (s.countedBoundary temp).port = { s.port with notices := (s.countedBoundary temp).port.notices } :=
    State.blocksAtBoundary_port_eq _ _ _
  have hevents : (s.countedBoundary temp).events = s.events.sample s.setup := State.blocksAtBoundary_events_eq _ _ _
  have hsampled (i : Fin 2) : (s.countedBoundary temp).events.sampled[i] =
      if s.setup.inputs[i].function = .attend then s.events.filtered[i] else s.events.sampled[i] := by
    rw [hevents]
    exact mapAllIdx_get _ _ i
  have hattended : (s.countedBoundary temp).attendedHolds = true ↔
      ∃ i : Fin 2, s.setup.inputs[i].function = .attend ∧ s.events.filtered[i] = true := by
    rw [attendedHolds_iff, State.countedBoundary_setup]
    exact exists_congr fun i => and_congr_right fun hattend => by rw [hsampled i, if_pos hattend]
  obtain ⟨-, hbit9, hbit14⟩ := s.holding_bits
  obtain ⟨-, hbit9', hbit14'⟩ := (s.countedBoundary temp).holding_bits
  refine ⟨_, _, _, exec_ownBoundary_running s temp hrunning, rfl, rfl, ?tb, ?_⟩
  rotate_left
  rw [State.latchFrom_retention, State.latchFrom_store, State.latchFrom_setup, State.latchFrom_archive, State.latchFrom_check,
    State.latchFrom_pins, State.latchFrom_line, State.latchFrom_member, State.latchFrom_port, State.latchFrom_table,
    State.latchFrom_tb, State.latchFrom_mark, State.latchFrom_events, hline, hport, hmember, hearly, State.countedBoundary_rows]
  refine ⟨State.countedBoundary_retention _ _, State.countedBoundary_store _ _, State.countedBoundary_setup _ _,
    State.countedBoundary_archive _ _, State.countedBoundary_check _ _, State.countedBoundary_pins _ _, rfl, rfl, rfl, rfl, rfl,
    rfl, rfl, rfl, rfl, congrArg (·.filtered) hevents, congrArg (·.edgeSeen) hevents, hsampled, hattended, ?attendedRises, rfl,
    Member.boundary_quiet _ _ _, decide_eq_true_iff.trans (by rw [State.latchFrom_member, hmember]), ?lostRises⟩
  case tb =>
    rw [State.latchFrom_tb, State.countedBoundary_tb]
    exact Timebase.boundary_counted_eq _ _ _ rfl rfl
  case attendedRises =>
    intro hbefore hafter
    exact State.latchFrom_rises (hbit9'.trans hafter) (hbit9.trans hbefore)
  case lostRises =>
    intro hbefore hafter
    exact State.latchFrom_rises (hbit14'.trans (decide_eq_true (hmember ▸ hafter))) (hbit14.trans (decide_eq_false (by omega)))

/-! ### A reference edge (R4, R10 to R15, R19) -/

/-- REFERENCE_EDGE at work: ignored without reference enable, and when its window has had its edge. -/
theorem exec_referenceEdge_running {s : State} {tick : Nat} {temp : Int} {others : Bool} (h : s.phase = .running) :
    exec (.referenceEdge tick temp others) s =
      .next (if (!s.setup.referenceEnable || (inReferenceWindow (s.tb.fold tick) && s.tb.windowTaken tick)) = true then s.reach tick
        else ((s.reach tick).referenceEdge tick (s.tb.fold tick) (inReferenceWindow (s.tb.fold tick)) temp others).latchFrom s) := by
  dsimp only [exec, execReferenceEdge]
  rw [atWork_running s _ h]

/-- The window that an edge at a tick belongs to has its edge. -/
theorem Timebase.takeWindow_tick (tb : Timebase) (tick : Nat) :
    tb.takeWindow (tick : Int) = { tb with
      windowEdge := if tick < 5000000 then true else tb.windowEdge
      nextWindowEdge := if tick < 5000000 then tb.nextWindowEdge else true } := by
  unfold Timebase.takeWindow Config.foldPoint
  by_cases h : tick < 5000000
  · rw [if_neg (by omega), if_pos h, if_pos h]
  · rw [if_pos (by omega), if_neg h, if_neg h]

/-- The first edge of its window is taken. -/
theorem exec_referenceEdge_inside {s : State} {tick : Nat} {temp phase : Int} {others : Bool} (hrunning : s.phase = .running)
    (henable : s.setup.referenceEnable = true)
    (hphase : phase = if tick < 5000000 then (tick : Int) else (tick : Int) - s.tb.epochLength) (hlow : -1000 ≤ phase)
    (hhigh : phase ≤ 1000) (hfirst : (if tick < 5000000 then s.tb.windowEdge else s.tb.nextWindowEdge) = false) :
    exec (.referenceEdge tick temp others) s = .next (((s.reach tick).referenceEdge tick phase true temp others).latchFrom s) := by
  have hinside : inReferenceWindow phase = true := (inReferenceWindow_iff _).mpr ⟨hlow, hhigh⟩
  rw [← Timebase.fold_tick] at hphase
  rw [exec_referenceEdge_running hrunning, ← hphase, Timebase.windowTaken_tick, hfirst, henable, hinside]
  rfl

/-- An edge outside its window is taken too. -/
theorem exec_referenceEdge_outside {s : State} {tick : Nat} {temp phase : Int} {others : Bool} (hrunning : s.phase = .running)
    (henable : s.setup.referenceEnable = true)
    (hphase : phase = if tick < 5000000 then (tick : Int) else (tick : Int) - s.tb.epochLength)
    (houtside : phase < -1000 ∨ 1000 < phase) :
    exec (.referenceEdge tick temp others) s = .next (((s.reach tick).referenceEdge tick phase false temp others).latchFrom s) := by
  have hinside : inReferenceWindow phase = false := by
    rw [← Bool.not_eq_true, inReferenceWindow_iff]
    omega
  rw [← Timebase.fold_tick] at hphase
  rw [exec_referenceEdge_running hrunning, ← hphase, henable, hinside]
  rfl

theorem State.labelEdge_of_none {s : State} (phase : Int) (h : s.tb.pendingLabel = none) : s.labelEdge phase = s := by
  have hlabel : s.tb.applyLabel phase = { tb := s.tb, relabeled := false } := by
    unfold Timebase.applyLabel
    rw [h]
  unfold State.labelEdge
  simp only [hlabel, h, Option.isSome_none, Bool.false_and, Bool.false_eq_true, if_false, State.raiseIf_false]
  rfl

/-- A label taken before the boundary waits for the epoch to come. -/
theorem State.labelEdge_early {s : State} {phase : Int} {label : EpochNumber} (h : s.tb.pendingLabel = some label) (hphase : phase < 0) :
    s.labelEdge phase =
      (s.setTb { s.tb with held := some { number := label, byLabel := true }, pendingLabel := none }).raiseIf
        (s.tb.held.all HeldNumber.byLabel) .relabeled := by
  unfold State.labelEdge Timebase.applyLabel
  simp only [h, hphase, if_true, Option.isSome_some, Bool.true_and, decide_eq_true_eq, if_neg (by omega : ¬ 0 ≤ phase)]

/-- A label taken at the boundary or after it numbers the epoch in progress, and its row. -/
theorem State.labelEdge_late {s : State} {phase : Int} {label : EpochNumber} (h : s.tb.pendingLabel = some label) (hphase : 0 ≤ phase) :
    s.labelEdge phase =
      ((s.setTb { s.tb with epochNumber := label, numberFrom := .label, pendingLabel := none }).raiseIf
        (decide (s.tb.numberFrom ≠ .relabel)) .relabeled).setTable (s.table.mapOpen fun r => { r with epoch := label }) := by
  unfold State.labelEdge Timebase.applyLabel
  simp only [h, hphase, if_true, Option.isSome_some, Bool.true_and, decide_eq_true_eq, if_neg (by omega : ¬ phase < 0),
    State.raiseIf_table, State.setTb_table]

/-- An edge that is not stepped to and applies no label leaves what it taught. -/
theorem State.referenceEdge_plain {s : State} {tick : Nat} {phase temp : Int} {inside others : Bool} {o : EdgeOutcome}
    (ho : referenceEdgeOutcome (if inside then s.tb.takeWindow tick else s.tb) s.retention.drift inside phase = o)
    (hstep : o.step = false) (hlabel : s.tb.timeState = .locked → inside = true → o.tb.pendingLabel = none) :
    s.referenceEdge tick phase inside temp others = s.takeEdge o := by
  subst ho
  unfold State.referenceEdge
  dsimp only
  rw [hstep, if_neg Bool.false_ne_true]
  by_cases h : s.tb.timeState = .locked ∧ inside = true
  · rw [if_pos h, State.labelEdge_of_none _ (hlabel h.1 h.2)]
  · rw [if_neg h]

/-- What an edge teaches changes nothing that holds. -/
theorem State.takeEdge_latchFrom (s : State) (tick : Nat) (o : EdgeOutcome) :
    ((s.reach tick).takeEdge o).latchFrom s = (s.setTb o.tb).setRetention { s.retention with drift := o.drift } :=
  State.latchFrom_same _ _ (State.holding_congr _ _ rfl rfl rfl rfl rfl rfl rfl)

/-- The current bin and the settle count as a qualifying edge leaves them. -/
theorem qualify_tb (tb : Timebase) (drift : Vector DriftBin 16) :
    (qualify tb drift).tb = { tb with settleCount := if tb.settleCount < 60 then tb.settleCount + 1 else tb.settleCount } := by
  unfold qualify
  split <;> rfl

theorem qualify_drift_settling (tb : Timebase) (drift : Vector DriftBin 16) (h : tb.settleCount < 60) :
    (qualify tb drift).drift = drift := by
  rw [qualify, if_pos h]

/-- An edge of its window in LOCKED is steered to, and qualifies. -/
theorem referenceEdgeOutcome_locked {tb : Timebase} (drift : Vector DriftBin 16) (phase : Int) (h : tb.timeState = .locked) :
    referenceEdgeOutcome tb drift true phase = qualify { tb.steer phase with missCount := 0 } drift := by
  unfold referenceEdgeOutcome
  rw [h]
  rfl

/-- The timebase steered to an edge of its window in LOCKED, before it learns (R6, R12). -/
def State.steeredInLock (s : State) (tick : Nat) (phase : Int) : Timebase :=
  { ((s.reach tick).tb.takeWindow tick).steer phase with missCount := 0 }

theorem State.steeredInLock_eq (s : State) (tick : Nat) (phase : Int) : s.steeredInLock tick phase = { s.tb with
    tick := max s.tb.tick tick
    phaseTerm := phase.tdiv 4
    f := max (-10000) (min 10000 (s.tb.f + (phase * 100).tdiv 16))
    missCount := 0
    windowEdge := if tick < 5000000 then true else s.tb.windowEdge
    nextWindowEdge := if tick < 5000000 then s.tb.nextWindowEdge else true } := by
  rw [State.steeredInLock, Timebase.steer, clampCorrection_eq, Timebase.takeWindow_tick]
  rfl

/-- In LOCKED an edge of its window is steered to and qualifies, and applies the label that waits. -/
theorem State.referenceEdge_locked {s : State} {tick : Nat} {phase temp : Int} {others : Bool} (hlocked : s.tb.timeState = .locked) :
    (s.reach tick).referenceEdge tick phase true temp others =
      ((s.reach tick).takeEdge (qualify (s.steeredInLock tick phase) s.retention.drift)).labelEdge phase := by
  have hedge : referenceEdgeOutcome ((s.reach tick).tb.takeWindow tick) s.retention.drift true phase =
      qualify (s.steeredInLock tick phase) s.retention.drift :=
    referenceEdgeOutcome_locked _ _ (by rw [Timebase.takeWindow_tick]; exact hlocked)
  unfold State.referenceEdge
  simp only [if_true, State.reach_retention, hedge, qualify_step, Bool.false_eq_true, if_false, and_true]
  exact if_pos hlocked

/-- Settles O6: in LOCKED an edge of its window is steered to and, once the station has settled, teaches the current drift bin. -/
theorem lockedEdgeSteersAndLearns : Obligations.LockedEdgeSteersAndLearns := by
  intro s tick temp phase others hrunning henable hlocked hpending hphase hlow hhigh hfirst
  have hsteered := s.steeredInLock_eq tick phase
  have hexec : exec (.referenceEdge tick temp others) s = .next
      ((s.setTb (qualify (s.steeredInLock tick phase) s.retention.drift).tb).setRetention
        { s.retention with drift := (qualify (s.steeredInLock tick phase) s.retention.drift).drift }) := by
    rw [exec_referenceEdge_inside hrunning henable hphase hlow hhigh hfirst, State.referenceEdge_locked hlocked,
      State.labelEdge_of_none _ (by rw [State.takeEdge, State.setRetention_tb, State.setTb_tb, qualify_tb, hsteered]; exact hpending),
      State.takeEdge_latchFrom]
  refine ⟨_, hexec, ?timebase, fun hsettling => ?settling, fun hsettled j => ?settled, rfl⟩
  case timebase =>
    rw [State.setRetention_tb, State.setTb_tb, qualify_tb, hsteered]
  case settling =>
    rw [State.setRetention_retention, qualify_drift_settling _ _ (by rw [hsteered]; exact hsettling)]
  case settled =>
    have hsettle : ¬ (s.steeredInLock tick phase).settleCount < 60 := by
      rw [hsteered]
      exact Nat.not_lt.mpr hsettled
    have hf : (qualify (s.steeredInLock tick phase) s.retention.drift).tb.f = (s.steeredInLock tick phase).f := by rw [qualify_tb]
    have hbin : (s.steeredInLock tick phase).oscTemp = s.tb.oscTemp := by rw [hsteered]
    rw [State.setRetention_tb, State.setTb_tb, hf, ← hbin]
    refine (qualify_drift _ _ hsettle j).trans ?_
    rw [DriftBin.learn, countUp]

/-- Settles O7: in LOCKED an edge of its window applies the label that waits, to the epoch to come or to the one in progress. -/
theorem labelAppliedAtWindowEdge : Obligations.LabelAppliedAtWindowEdge := by
  intro s tick temp phase others label hrunning henable hlocked hpending hphase hlow hhigh hfirst
  have hedge := exec_referenceEdge_inside (temp := temp) (others := others) hrunning henable hphase hlow hhigh hfirst
  rw [State.referenceEdge_locked hlocked] at hedge
  have htb : ((s.reach tick).takeEdge (qualify (s.steeredInLock tick phase) s.retention.drift)).tb =
      { s.steeredInLock tick phase with
        settleCount := if (s.steeredInLock tick phase).settleCount < 60 then (s.steeredInLock tick phase).settleCount + 1
          else (s.steeredInLock tick phase).settleCount } := qualify_tb _ _
  generalize hu : (s.reach tick).takeEdge (qualify (s.steeredInLock tick phase) s.retention.drift) = u at *
  rw [State.steeredInLock_eq] at htb
  have hpending' : u.tb.pendingLabel = some label := by rw [htb]; exact hpending
  have hsame (x : State) (h : x.front = u.front ∧ x.dec = u.dec ∧ x.corr = u.corr ∧ x.setup = u.setup ∧ x.events = u.events ∧
      x.check = u.check ∧ x.member.quiet = u.member.quiet) : x.latchFrom s = x := by
    subst hu
    obtain ⟨hfront, hdec, hcorr, hsetup, hevents, hcheck, hquiet⟩ := h
    exact State.latchFrom_same _ _ (State.holding_congr _ _ hfront hdec hcorr hsetup hevents hcheck hquiet)
  have htable : u.table = s.table := by subst hu; rfl
  have hraised : u.raised = s.raised := by subst hu; rfl
  have hnotices : u.port.notices = s.port.notices := by subst hu; rfl
  rcases Int.lt_or_le phase 0 with hneg | hnonneg
  · rw [State.labelEdge_early hpending' hneg, hsame _ (by simp)] at hedge
    refine ⟨_, hedge, by simp, by simp [htb], by simp [htb], by simp [htb], by simp [htb], fun _ => ⟨by simp, by simp [htb], by simp [htable],
      fun hheld => ?_⟩, fun h => absurd hneg (Int.not_lt.mpr h)⟩
    have hall : u.tb.held.all HeldNumber.byLabel = true := by rw [htb]; simp [hheld]
    rw [hall, State.raiseIf_true]
    simp [hraised, hnotices, Condition.only, Condition.bit]
  · rw [State.labelEdge_late hpending' hnonneg, hsame _ (by simp)] at hedge
    refine ⟨_, hedge, by simp, by simp [htb], by simp [htb], by simp [htb], by simp [htb], fun h => absurd h (Int.not_lt.mpr hnonneg),
      fun _ => ⟨by simp [htb], by simp, fun r hr => ?_, fun hfrom => ?_⟩⟩
    · rw [State.setTable_table, htable]
      exact (EpochTable.openRow_mapOpen s.table (fun r => { r with epoch := label }) fun _ => rfl).trans (by rw [hr]; rfl)
    · have hnot : decide (u.tb.numberFrom ≠ .relabel) = true := by rw [htb]; exact decide_eq_true hfrom
      rw [hnot, State.raiseIf_true]
      simp [hraised, hnotices, Condition.only, Condition.bit]

end Sys2Proof.Machine
end

section
/-! SUPPORT. A reference edge while the station acquires, and the end of a reference window (R8 to R13, R22). -/

namespace Sys2Proof.Machine

/-! ### Acquiring (R10, R11) -/

/-- The timebase steered to an edge of its window while the station acquires, before the edge is counted (R6, R11, R22). -/
def State.steeredToAcquire (s : State) (tick : Nat) (phase : Int) : Timebase :=
  { ((s.reach tick).tb.takeWindow tick).steerPlain phase with missCount := 0 }

theorem State.steeredToAcquire_eq (s : State) (tick : Nat) (phase : Int) : s.steeredToAcquire tick phase = { s.tb with
    tick := max s.tb.tick tick
    phaseTerm := phase.tdiv 4
    f := max (-10000) (min 10000 (s.tb.f + (phase * 100).tdiv 16))
    settleCount := 0
    missCount := 0
    windowEdge := if tick < 5000000 then true else s.tb.windowEdge
    nextWindowEdge := if tick < 5000000 then s.tb.nextWindowEdge else true } := by
  rw [State.steeredToAcquire, Timebase.steerPlain, Timebase.steer, clampCorrection_eq, Timebase.takeWindow_tick]
  rfl

/-- What an edge of its window makes of an acquiring timebase: it counts when it lies close, and the fourth such edge locks. -/
def acquireOutcome (tb : Timebase) (phase : Int) : Timebase :=
  if phase < -100 ∨ 100 < phase then { tb with acquireCount := 0 }
  else if tb.acquireCount < 3 then { tb with acquireCount := tb.acquireCount + 1 }
  else { tb with acquireCount := tb.acquireCount + 1 }.enter .locked

theorem referenceEdgeOutcome_acquiring {tb : Timebase} (drift : Vector DriftBin 16) (phase : Int) (h : tb.timeState = .refAcquire) :
    referenceEdgeOutcome tb drift true phase =
      { tb := acquireOutcome { tb.steerPlain phase with missCount := 0 } phase, drift := drift, step := false } := by
  unfold referenceEdgeOutcome acquireOutcome
  rw [h]
  by_cases hclose : phase < -100 ∨ 100 < phase
  · have hwithin : ¬ phaseWithin 100 phase = true := by rw [phaseWithin_iff]; omega
    simp only [Bool.not_true, Bool.false_eq_true, if_false, hwithin, if_pos hclose]
  · have hwithin : phaseWithin 100 phase = true := by rw [phaseWithin_iff]; omega
    by_cases hcount : tb.acquireCount < 3
    · have hfew : ¬ 4 ≤ tb.acquireCount + 1 := by omega
      simp only [Bool.not_true, Bool.false_eq_true, if_false, hwithin, if_true, if_neg hclose]
      exact (congrArg (fun x => ({ tb := x, drift := drift, step := false } : EdgeOutcome)) ((if_neg hfew).trans (if_pos hcount).symm))
    · have hmany : 4 ≤ tb.acquireCount + 1 := by omega
      simp only [Bool.not_true, Bool.false_eq_true, if_false, hwithin, if_true, if_neg hclose]
      exact (congrArg (fun x => ({ tb := x, drift := drift, step := false } : EdgeOutcome)) ((if_pos hmany).trans (if_neg hcount).symm))

/-- While the station acquires, an edge of its window moves the timebase alone. -/
theorem exec_referenceEdge_acquiring {s : State} {tick : Nat} {temp phase : Int} {others : Bool} (hrunning : s.phase = .running)
    (henable : s.setup.referenceEnable = true) (hacquire : s.tb.timeState = .refAcquire)
    (hphase : phase = if tick < 5000000 then (tick : Int) else (tick : Int) - s.tb.epochLength) (hlow : -1000 ≤ phase)
    (hhigh : phase ≤ 1000) (hfirst : (if tick < 5000000 then s.tb.windowEdge else s.tb.nextWindowEdge) = false) :
    exec (.referenceEdge tick temp others) s = .next (s.setTb (acquireOutcome (s.steeredToAcquire tick phase) phase)) := by
  have hedge := referenceEdgeOutcome_acquiring (tb := (s.reach tick).tb.takeWindow tick) s.retention.drift phase
    (by rw [Timebase.takeWindow_tick]; exact hacquire)
  have hunlocked : (s.reach tick).tb.timeState ≠ .locked := by
    rw [State.reach_tb]
    exact ne_of_eq_of_ne hacquire (by decide)
  have hplain : (s.reach tick).referenceEdge tick phase true temp others = (s.reach tick).takeEdge
      { tb := acquireOutcome (s.steeredToAcquire tick phase) phase, drift := s.retention.drift, step := false } :=
    State.referenceEdge_plain (by rw [if_pos rfl]; exact hedge) rfl fun h => absurd h hunlocked
  rw [exec_referenceEdge_inside hrunning henable hphase hlow hhigh hfirst, hplain, State.takeEdge_latchFrom]
  rfl

/-! ### A step of the timebase (R7) -/

/-- What a step makes of a timebase that is not in HOLDOVER. -/
theorem Timebase.boundary_step_eq {tb : Timebase} {kind : BoundaryKind} (drift : Vector DriftBin 16) (tick : Nat) (temp : Int)
    (hstep : kind.isStep = true) (hhold : tb.timeState ≠ .holdover) :
    tb.boundary drift kind tick temp = { tb with
      tick := tick
      epochNumber := (tb.boundary drift kind tick temp).epochNumber
      numberFrom := (tb.boundary drift kind tick temp).numberFrom
      held := none
      epochsSinceStart := min (tb.epochsSinceStart + 1) 0xFFFFFFFF
      oscTemp := temp
      epochLength := 10000000 + (tb.f + tb.carry).tdiv 100
      carry := (tb.f + tb.carry) - 100 * (tb.f + tb.carry).tdiv 100
      phaseTerm := 0
      settleCount := 0
      windowEdge := decide (kind = .referenceStep)
      nextWindowEdge := false } := by
  cases kind with
  | counted => exact absurd hstep (by decide)
  | referenceStep | markStep =>
    unfold Timebase.boundary Timebase.fixLength
    simp only [if_neg hhold, BoundaryKind.isStep, Bool.true_or, if_true, countUp_eq, Int.add_zero]
    rfl

/-- Outside FOLLOWING and FOLLOW_ACQUIRE a step's close moves only the leader's rank, the source age and the numbers. -/
theorem State.stepTo_tb_eq (s : State) (kind : BoundaryKind) (cause : Option (MarkKind × Int)) (collected : TimeState) (shift : Int)
    (tick : Nat) (temp : Int) (others : Bool) (hfollowing : s.tb.timeState ≠ .following) (hacquire : s.tb.timeState ≠ .followAcquire) :
    ∃ rank age held number source, (s.stepTo kind cause collected shift tick temp others).tb =
      { s.tb.boundary s.retention.drift kind tick temp with
        leaderRank := rank, sourceAge := age, held := held, epochNumber := number, numberFrom := source } := by
  rw [State.stepTo_eq, State.blocksAtBoundary_tb, State.cutAtStep_eq]
  refine State.closeRow_cases (P := fun x => ∃ rank age held number source, x.tb = { s.tb.boundary s.retention.drift kind tick temp with
    leaderRank := rank, sourceAge := age, held := held, epochNumber := number, numberFrom := source }) _ _ _
    (fun _ => ⟨_, _, _, _, _, rfl⟩) (fun _ _ _ => ⟨_, _, _, _, _, rfl⟩) fun r _ _ => ?_
  rw [State.closeBlocks_tb_eq]
  exact ⟨_, _, _, _, _, Timebase.close_eq (s.tb.boundary s.retention.drift kind tick temp) _ _ _ _ _ hfollowing hacquire⟩

/-! ### A step of the other blocks (R7) -/

section

variable (s : State) (kind : BoundaryKind) (cause : Option (MarkKind × Int)) (collected : TimeState) (shift : Int) (tick : Nat)
  (temp : Int) (others : Bool)

/-- A close halts no station, and brings none back from HALTED. -/
theorem Member.close_halted_iff (m : Member) (r : Row) : (m.close r).state = .halted ↔ m.state = .halted := by
  rcases m.close_state r with hsame | ⟨hjoining, hmember⟩ | ⟨hconflict, hjoining⟩
  · rw [hsame]
  · rw [hjoining, hmember]
    decide
  · rw [hconflict, hjoining]
    decide

theorem State.cutAtStep_halted_iff : (s.cutAtStep kind collected tick temp others).member.state = .halted ↔ s.member.state = .halted := by
  rw [State.cutAtStep_eq]
  refine State.closeRow_cases (P := fun x => x.member.state = .halted ↔ s.member.state = .halted) _ _ _ (fun _ => by simp)
    (fun _ _ _ => by simp) fun r _ _ => ?_
  rw [State.closeBlocks_member_eq, Member.close_halted_iff]
  simp

theorem State.cutAtStep_lastRise : (s.cutAtStep kind collected tick temp others).mark.lastRise = s.mark.lastRise := by
  rw [State.cutAtStep_eq]
  refine State.closeRow_cases (P := fun x => x.mark.lastRise = s.mark.lastRise) _ _ _ (fun _ => by simp)
    (fun _ _ _ => by simp) fun r _ _ => ?_
  rw [State.closeBlocks_mark_eq, MarkUnit.close, State.setTable_mark, State.beforeCut_mark]

/-- A step reserves at most one sequence number in retention memory. -/
theorem State.stepTo_retention_eq :
    ∃ n, (s.stepTo kind cause collected shift tick temp others).retention = { s.retention with nextSeq := n } := by
  rw [State.stepTo_eq, State.blocksAtBoundary_retention, State.cutAtStep_eq]
  refine State.closeRow_cases (P := fun x => ∃ n, x.retention = { s.retention with nextSeq := n }) _ _ _ (fun _ => ⟨s.retention.nextSeq, ?none⟩)
    (fun _ _ _ => ⟨s.retention.nextSeq, ?halted⟩) fun r _ _ => ?_
  case none => exact State.beforeCut_retention s kind tick temp others
  case halted => exact State.beforeCut_retention s kind tick temp others
  rw [State.closeBlocks_retention_eq, State.setTable_retention, State.beforeCut_retention]
  split
  · exact ⟨_, rfl⟩
  · exact ⟨_, rfl⟩

/-- The watches that a step to a reference edge opens. -/
theorem State.stepTo_watch_eq (hactive : s.member.state ≠ .halted) :
    (s.stepTo .referenceStep cause collected shift tick temp others).mark.watch =
        { isOpen := true, taken := false, riseSeen := (s.mark.lastRise.map fun p => p - shift).any inSpan } ∧
      (s.stepTo .referenceStep cause collected shift tick temp others).mark.nextWatch = Watch.fresh := by
  rw [State.stepTo_eq, State.blocksAtBoundary_mark_eq, State.markBoundary_mark_eq,
    if_neg (mt (State.cutAtStep_halted_iff s _ _ _ _ _).mp hactive)]
  refine ⟨?_, rfl⟩
  rw [← State.cutAtStep_lastRise s .referenceStep collected tick temp others]
  rfl

theorem State.stepTo_dec_get (i : Channel) (hkind : s.setup.channels[i].kind ≠ .off) :
    (s.stepTo kind cause collected shift tick temp others).dec[i] =
      { stage1 := [], stage1Count := 0, stage2 := [], value := none, warming := true } := by
  rw [State.stepTo_eq, State.blocksAtBoundary_dec_eq, mapAllIdx_get, State.cutAtStep_setup]
  unfold DecChannel.boundary
  rw [if_neg hkind, if_pos rfl, DecChannel.flush]

theorem State.stepTo_front_get (i : Channel) :
    (s.stepTo kind cause collected shift tick temp others).front[i] =
      { s.front[i] with runSign := RunSign.none, runCount := 0, settle := 0, inRange := 0 } := by
  rw [State.stepTo_eq, State.blocksAtBoundary_front_eq, if_pos rfl, mapAll_get, State.cutAtStep_front, FrontEnd.flush]

theorem State.stepTo_warmingHolds (i : Channel) (hkind : s.setup.channels[i].kind ≠ .off) :
    (s.stepTo kind cause collected shift tick temp others).warmingHolds = true := by
  unfold State.warmingHolds
  exact anyChannel_eq_true_iff.mpr ⟨i, by rw [State.stepTo_dec_get _ _ _ _ _ _ _ _ i hkind]⟩

end

/-! ### Stepping to a reference edge (R10, R11) -/

/-- An edge that is stepped to. -/
theorem State.referenceEdge_step {s : State} {tick : Nat} {phase temp : Int} {inside others : Bool} {taken tb : Timebase}
    (htaken : (if inside then s.tb.takeWindow tick else s.tb) = taken)
    (ho : referenceEdgeOutcome taken s.retention.drift inside phase = { tb := tb, drift := s.retention.drift, step := true }) :
    s.referenceEdge tick phase inside temp others = (s.setTb tb).stepTo .referenceStep none s.tb.timeState tick 0 temp others := by
  unfold State.referenceEdge
  dsimp only
  rw [htaken, ho]
  rfl

/-- What a step to a reference edge makes of a timebase in REF_ACQUIRE. -/
theorem State.stepTo_tb_acquiring {s : State} (cause : Option (MarkKind × Int)) (collected : TimeState) (shift : Int) (temp : Int)
    (others : Bool) (hacquire : s.tb.timeState = .refAcquire) :
    ∃ rank age held number source carry, (s.stepTo .referenceStep cause collected shift 0 temp others).tb =
      { s.tb with
        tick := 0, leaderRank := rank, sourceAge := age, held := held, epochNumber := number, numberFrom := source, carry := carry
        epochsSinceStart := min (s.tb.epochsSinceStart + 1) 0xFFFFFFFF, oscTemp := temp
        epochLength := 10000000 + (s.tb.f + s.tb.carry).tdiv 100, phaseTerm := 0, settleCount := 0
        windowEdge := true, nextWindowEdge := false } := by
  obtain ⟨rank, age, held, number, source, heq⟩ := State.stepTo_tb_eq s .referenceStep cause collected shift 0 temp others
    (by rw [hacquire]; decide) (by rw [hacquire]; decide)
  rw [Timebase.boundary_step_eq _ _ _ rfl (by rw [hacquire]; decide)] at heq
  exact ⟨rank, age, held, number, source, _, heq⟩

theorem referenceEdgeOutcome_restart {tb : Timebase} (drift : Vector DriftBin 16) (phase : Int) (h : tb.timeState = .refAcquire) :
    referenceEdgeOutcome tb drift false phase = { tb := { tb with acquireCount := 0 }, drift := drift, step := true } := by
  unfold referenceEdgeOutcome
  rw [h]
  rfl

/-- In REF_ACQUIRE an edge outside its window is stepped to, and the count starts again. -/
theorem exec_referenceEdge_restart {s : State} {tick : Nat} {temp phase : Int} {others : Bool} (hrunning : s.phase = .running)
    (henable : s.setup.referenceEnable = true) (hacquire : s.tb.timeState = .refAcquire)
    (hphase : phase = if tick < 5000000 then (tick : Int) else (tick : Int) - s.tb.epochLength)
    (houtside : phase < -1000 ∨ 1000 < phase) :
    exec (.referenceEdge tick temp others) s =
      .next (((s.setTb { s.tb with tick := max s.tb.tick tick, acquireCount := 0 }).stepTo .referenceStep none s.tb.timeState tick 0 temp
        others).latchFrom s) := by
  have hedge := referenceEdgeOutcome_restart (tb := (s.reach tick).tb) (s.reach tick).retention.drift phase hacquire
  rw [exec_referenceEdge_outside hrunning henable hphase houtside,
    State.referenceEdge_step (taken := (s.reach tick).tb) (if_neg Bool.false_ne_true) hedge]
  rfl

/-- From the states without a reference an edge, at any phase, is stepped to and acquisition begins. -/
theorem exec_referenceEdge_acquires {s : State} {tick : Nat} {temp phase : Int} {others : Bool} (hrunning : s.phase = .running)
    (henable : s.setup.referenceEnable = true) (hacquire : s.tb.timeState ≠ .refAcquire) (hlocked : s.tb.timeState ≠ .locked)
    (hphase : phase = if tick < 5000000 then (tick : Int) else (tick : Int) - s.tb.epochLength)
    (hfirst : phase < -1000 ∨ 1000 < phase ∨ (if tick < 5000000 then s.tb.windowEdge else s.tb.nextWindowEdge) = false) :
    ∃ edge nextEdge, exec (.referenceEdge tick temp others) s =
      .next (((s.setTb { s.tb with
        tick := max s.tb.tick tick, timeState := .refAcquire, missCount := 0, settleCount := 0, pendingLabel := none, acquireCount := 0
        firstEdgeTaken := true, windowEdge := edge, nextWindowEdge := nextEdge }).stepTo .referenceStep none s.tb.timeState tick 0 temp
          others).latchFrom s) := by
  have henter (tb : Timebase) (inside : Bool) (htb : tb.timeState = s.tb.timeState) :
      referenceEdgeOutcome tb s.retention.drift inside phase =
        { tb := { tb with timeState := .refAcquire, missCount := 0, settleCount := 0, pendingLabel := none, acquireCount := 0
                          firstEdgeTaken := true }
          drift := s.retention.drift, step := true } := by
    have hentered : tb.enterAcquire .refAcquire true = { tb with
        timeState := .refAcquire, missCount := 0, settleCount := 0, pendingLabel := none, acquireCount := 0, firstEdgeTaken := true } := by
      rw [Timebase.enterAcquire, Timebase.enter, if_neg (by rw [htb]; exact hacquire)]
      rfl
    rw [← hentered]
    unfold referenceEdgeOutcome
    split
    case h_1 | h_2 | h_3 | h_4 => rfl
    case h_5 h => exact absurd (htb.symm.trans h) hacquire
    case h_6 h => exact absurd (htb.symm.trans h) hlocked
  by_cases houtside : phase < -1000 ∨ 1000 < phase
  · refine ⟨s.tb.windowEdge, s.tb.nextWindowEdge, ?_⟩
    rw [exec_referenceEdge_outside hrunning henable hphase houtside,
      State.referenceEdge_step (taken := (s.reach tick).tb) (if_neg Bool.false_ne_true) (henter (s.reach tick).tb false rfl)]
    rfl
  · refine ⟨if tick < 5000000 then true else s.tb.windowEdge, if tick < 5000000 then s.tb.nextWindowEdge else true, ?_⟩
    rw [exec_referenceEdge_inside hrunning henable hphase (by omega) (by omega) (by tauto),
      State.referenceEdge_step (s := s.reach tick) ((if_pos rfl).trans (Timebase.takeWindow_tick _ _)) (henter _ true rfl)]
    rfl

end Sys2Proof.Machine
end

section
/-! SUPPORT. What reference edges and the ends of reference windows do by the time state (R8, R10 to R13, R22). -/

namespace Sys2Proof.Machine

/-- A notice stays through a latch. -/
theorem State.latchFrom_notices_keeps (after before : State) (j : Nat) (h : after.port.notices.getLsbD j = true) :
    (after.latchFrom before).port.notices.getLsbD j = true := by
  rw [State.latchFrom_port, BitVec.getLsbD_or, h, Bool.true_or]

/-- In LOCKED an edge outside its window does nothing. -/
theorem State.referenceEdge_ignored {s : State} {tick : Nat} {phase temp : Int} {others : Bool} (hlocked : s.tb.timeState = .locked) :
    s.referenceEdge tick phase false temp others = s := by
  have hedge : referenceEdgeOutcome s.tb s.retention.drift false phase = { tb := s.tb, drift := s.retention.drift, step := false } := by
    unfold referenceEdgeOutcome
    rw [hlocked]
    rfl
  have hplain : s.referenceEdge tick phase false temp others = s.takeEdge { tb := s.tb, drift := s.retention.drift, step := false } :=
    State.referenceEdge_plain (by rw [if_neg Bool.false_ne_true]; exact hedge) rfl fun _ h => absurd h Bool.false_ne_true
  exact hplain

/-- Settles O8: in REF_ACQUIRE the fourth close edge locks, an edge outside its window starts again, and the edges that are ignored. -/
theorem acquiringEdgesLockAtFour : Obligations.AcquiringEdgesLockAtFour := by
  intro s tick temp phase others hrunning hphase
  refine ⟨fun henable hacquire hlow hhigh hfirst => ?inside, fun henable hacquire houtside => ?restart, fun hignored => ?ignored⟩
  case inside =>
    refine ⟨_, exec_referenceEdge_acquiring hrunning henable hacquire hphase hlow hhigh hfirst, rfl, ?_⟩
    rw [State.setTb_tb, State.steeredToAcquire_eq]
    unfold acquireOutcome
    by_cases hfar : phase < -100 ∨ 100 < phase
    · rw [if_pos hfar]
      exact ⟨rfl, rfl, rfl, rfl, rfl, rfl, rfl, rfl, fun _ => ⟨hacquire, rfl, rfl⟩, fun _ _ _ => by omega, fun _ _ _ => by omega⟩
    · rw [if_neg hfar]
      by_cases hcount : s.tb.acquireCount < 3
      · rw [if_pos hcount]
        exact ⟨rfl, rfl, rfl, rfl, rfl, rfl, rfl, rfl, fun h => absurd h hfar, fun _ _ _ => ⟨hacquire, rfl, rfl⟩, fun _ _ _ => by omega⟩
      · rw [if_neg hcount, Timebase.enter, if_neg (ne_of_eq_of_ne hacquire (by decide))]
        exact ⟨rfl, rfl, rfl, rfl, rfl, rfl, rfl, rfl, fun h => absurd h hfar, fun _ _ h => absurd h hcount, fun _ _ _ => ⟨rfl, rfl⟩⟩
  case restart =>
    obtain ⟨rank, age, held, number, source, carry, htb⟩ := State.stepTo_tb_acquiring
      (s := s.setTb { s.tb with tick := max s.tb.tick tick, acquireCount := 0 }) none s.tb.timeState tick temp others hacquire
    have hraises := State.stepTo_raises (s.setTb { s.tb with tick := max s.tb.tick tick, acquireCount := 0 }) .referenceStep none
      s.tb.timeState tick 0 temp others
    refine ⟨_, exec_referenceEdge_restart hrunning henable hacquire hphase houtside, ?_⟩
    rw [State.latchFrom_tb, htb]
    exact ⟨hacquire, rfl, rfl, rfl, rfl, rfl, rfl, rfl, rfl, rfl, rfl, State.latchFrom_keeps _ _ _ hraises.1,
      State.latchFrom_notices_keeps _ _ _ hraises.2⟩
  case ignored =>
    by_cases henable : s.setup.referenceEnable = true
    · rcases hignored with hdisabled | ⟨hlow, hhigh, htaken⟩ | ⟨hlocked, houtside⟩
      · exact absurd henable (by rw [hdisabled]; decide)
      · have hinside : inReferenceWindow phase = true := (inReferenceWindow_iff _).mpr ⟨hlow, hhigh⟩
        rw [← Timebase.fold_tick] at hphase
        rw [exec_referenceEdge_running hrunning, ← hphase, Timebase.windowTaken_tick, htaken, hinside, if_pos (by simp)]
        rfl
      · rw [exec_referenceEdge_outside hrunning henable hphase houtside, State.referenceEdge_ignored (s := s.reach tick) hlocked,
          State.latchFrom_same (s.reach tick) s (State.holding_congr _ _ rfl rfl rfl rfl rfl rfl rfl)]
        rfl
    · rw [exec_referenceEdge_running hrunning, if_pos (by simp [henable])]
      rfl

/-- A rise of the mark lies in the span of the boundary stepped to. -/
theorem anyInSpan_iff (lastRise : Option Int) (tick : Int) :
    (lastRise.map fun p => p - tick).any inSpan = true ↔ ∃ p, lastRise = some p ∧ -20000 ≤ p - tick ∧ p - tick < 50000 := by
  cases lastRise with
  | none => simp
  | some p => simp [inSpan_iff]

/-- Settles O9: from FREE, FOLLOW_ACQUIRE, FOLLOWING and HOLDOVER a reference edge is stepped to, and acquisition begins. -/
theorem referenceEdgeStepsToRefAcquire : Obligations.ReferenceEdgeStepsToRefAcquire := by
  intro s tick temp phase others hrunning henable hacquire hlocked hphase hfirst
  obtain ⟨edge, nextEdge, hexec⟩ := exec_referenceEdge_acquires (temp := temp) (others := others) hrunning henable hacquire hlocked hphase hfirst
  refine ⟨_, hexec, ?_⟩
  generalize hu : (s.setTb { s.tb with
    tick := max s.tb.tick tick, timeState := .refAcquire, missCount := 0, settleCount := 0, pendingLabel := none, acquireCount := 0
    firstEdgeTaken := true, windowEdge := edge, nextWindowEdge := nextEdge }) = u
  have hutb : u.tb = { s.tb with
    tick := max s.tb.tick tick, timeState := .refAcquire, missCount := 0, settleCount := 0, pendingLabel := none, acquireCount := 0
    firstEdgeTaken := true, windowEdge := edge, nextWindowEdge := nextEdge } := by subst hu; rfl
  have hmember : u.member = s.member := by subst hu; rfl
  have hmark : u.mark = s.mark := by subst hu; rfl
  have hsetup : u.setup = s.setup := by subst hu; rfl
  have hstore : u.store = s.store := by subst hu; rfl
  have hretention : u.retention = s.retention := by subst hu; rfl
  obtain ⟨rank, age, held, number, source, carry, htb⟩ := State.stepTo_tb_acquiring (s := u) none s.tb.timeState tick temp others
    (by rw [hutb])
  have hraises := State.stepTo_raises u .referenceStep none s.tb.timeState tick 0 temp others
  rw [State.latchFrom_tb, htb, hutb]
  refine ⟨rfl, rfl, rfl, rfl, rfl, rfl, rfl, rfl, rfl, rfl, rfl, rfl, rfl, State.latchFrom_keeps _ _ _ hraises.1,
    State.latchFrom_notices_keeps _ _ _ hraises.2, fun hactive => ?watch, fun i hkind hcold => ?warming, ?setup, ?store, ?drift, ?slots⟩
  case watch =>
    obtain ⟨hwatch, hnext⟩ := State.stepTo_watch_eq u none s.tb.timeState tick 0 temp others (by rw [hmember]; exact hactive)
    rw [State.latchFrom_mark, hwatch, hnext, hmark]
    exact ⟨rfl, rfl, rfl, rfl, anyInSpan_iff _ _⟩
  case warming =>
    have hwarm := State.stepTo_warmingHolds u .referenceStep none s.tb.timeState tick 0 temp others i (by rw [hsetup]; exact hkind)
    obtain ⟨hbit, -, -⟩ := (u.stepTo .referenceStep none s.tb.timeState tick 0 temp others).holding_bits
    exact ⟨hwarm, State.latchFrom_rises (hbit.trans hwarm) (s.holding_bits.1.trans hcold)⟩
  case setup => rw [State.latchFrom_setup, State.stepTo_setup, hsetup]
  case store => rw [State.latchFrom_store, State.stepTo_store, hstore]
  all_goals
    obtain ⟨n, hkept⟩ := State.stepTo_retention_eq u .referenceStep none s.tb.timeState tick 0 temp others
    rw [State.latchFrom_retention, hkept, hretention]

/-! ### The end of a reference window (R8, R11, R12) -/

/-- Entry into another time state. -/
theorem Timebase.enter_other {tb : Timebase} {ts : TimeState} (h : tb.timeState ≠ ts) :
    tb.enter ts = { tb with timeState := ts, missCount := 0, settleCount := 0, pendingLabel := none,
                            sourceAge := if ts = .locked then 0 else tb.sourceAge } := by
  rw [Timebase.enter, if_neg h]

/-- A third miss of a station that marks discipline: it follows them when the last mark lay close, and else acquires them. -/
theorem Timebase.referenceLoss_disciplined {tb : Timebase} (hthree : ¬ tb.missCount < 3) :
    tb.referenceLoss true =
      if tb.timeState = .locked ∧ tb.lastMarkPhase.any (phaseWithin 20000) = true then tb.enter .following
      else tb.enterAcquire .followAcquire false := by
  rw [Timebase.referenceLoss, if_neg hthree]
  rfl

theorem Timebase.referenceLoss_undisciplined {tb : Timebase} (hthree : ¬ tb.missCount < 3) :
    tb.referenceLoss false = tb.enter .holdover := by
  rw [Timebase.referenceLoss, if_neg hthree]
  rfl

/-- A miss in REF_ACQUIRE or LOCKED leads to these two timebases. -/
theorem Timebase.windowEnd_missed {tb : Timebase} (follows : Bool) (hedge : tb.windowEdge = false)
    (hstate : tb.timeState = .refAcquire ∨ tb.timeState = .locked) :
    tb.windowEnd follows = ({ tb.miss with
      acquireCount := if tb.timeState = .refAcquire then 0 else tb.acquireCount } : Timebase).referenceLoss follows := by
  unfold Timebase.windowEnd
  rcases hstate with h | h <;> rw [hedge, h] <;> rfl

theorem Timebase.windowEnd_idle {tb : Timebase} (follows : Bool)
    (h : tb.windowEdge = true ∨ (tb.timeState ≠ .refAcquire ∧ tb.timeState ≠ .locked)) : tb.windowEnd follows = tb := by
  unfold Timebase.windowEnd
  rcases h with h | ⟨hacquire, hlocked⟩
  · rw [if_pos h]
  · split
    · rfl
    · split
      case h_1 h => exact absurd h hacquire
      case h_2 h => exact absurd h hlocked
      all_goals rfl

/-- Settles O11: the end of a reference window without an edge counts a miss, and the third one leaves the reference. -/
theorem referenceWindowEndCountsMisses : Obligations.ReferenceWindowEndCountsMisses := by
  intro s hrunning htick
  have hreach : s.tb.reach 1000 = { s.tb with tick := 1000 } := by
    rw [Timebase.reach, Nat.max_eq_right htick]
  refine ⟨_, (atWork_running s _ hrunning).trans (congrArg _ (if_pos htick)), rfl, fun hidle => ?idle, fun hedge hstate => ?missed⟩
  case idle =>
    rw [State.setTb_tb, hreach]
    exact Timebase.windowEnd_idle _ hidle
  case missed =>
    rw [State.setTb_tb, hreach, Timebase.windowEnd_missed (tb := { s.tb with tick := 1000 }) _ hedge hstate]
    generalize hm : ({ ({ s.tb with tick := 1000 } : Timebase).miss with
      acquireCount := if s.tb.timeState = .refAcquire then 0 else s.tb.acquireCount } : Timebase) = m
    have hmstate : m.timeState = s.tb.timeState := by subst hm; rfl
    have hmcount : m.missCount = s.tb.missCount + 1 := by subst hm; rfl
    have hmsettle : m.settleCount = 0 := by subst hm; rfl
    have hmphase : m.lastMarkPhase = s.tb.lastMarkPhase := by subst hm; rfl
    have hmf : m.f = s.tb.f := by subst hm; rfl
    have hother {ts : TimeState} (h : ts ≠ .refAcquire) (h' : ts ≠ .locked) : m.timeState ≠ ts := by
      rw [hmstate]
      rintro rfl
      exact hstate.elim h h'
    by_cases hfew : m.missCount < 3
    · have hloss : m.referenceLoss s.disciplined = m := if_pos hfew
      rw [hloss]
      refine ⟨hmsettle, fun hacquire _ => ?_, fun _ => ⟨hmcount, hmstate⟩, fun h => by omega⟩
      subst hm
      exact if_pos hacquire
    · cases hdisciplined : s.disciplined with
      | false =>
        rw [Timebase.referenceLoss_undisciplined hfew, Timebase.enter_other (hother (by decide) (by decide))]
        exact ⟨rfl, fun _ h => by omega, fun h => by omega, fun _ => ⟨rfl, rfl, hmf, fun _ => rfl, nofun⟩⟩
      | true =>
        rw [Timebase.referenceLoss_disciplined hfew]
        by_cases hfollow : m.timeState = .locked ∧ m.lastMarkPhase.any (phaseWithin 20000) = true
        · rw [if_pos hfollow, Timebase.enter_other (hother (by decide) (by decide))]
          refine ⟨rfl, fun _ h => by omega, fun h => by omega, fun _ => ⟨rfl, rfl, hmf, nofun, fun _ => ⟨fun _ _ _ _ _ => rfl, fun hnot => ?_⟩⟩⟩
          rw [hmstate, hmphase] at hfollow
          obtain ⟨hlocked, hclose⟩ := hfollow
          rcases hnot with hacquire | hnone | ⟨p, hp, hfar⟩
          · exact absurd (hlocked.symm.trans hacquire) (by decide)
          · rw [hnone] at hclose
            exact absurd hclose (by decide)
          · rw [hp, Option.any_some, phaseWithin_iff] at hclose
            omega
        · rw [if_neg hfollow, Timebase.enterAcquire, Timebase.enter_other (hother (by decide) (by decide))]
          refine ⟨rfl, fun _ h => by omega, fun h => by omega, fun _ => ⟨rfl, rfl, hmf, nofun, fun _ =>
            ⟨fun hlocked p hp hlow hhigh => absurd ?_ hfollow, fun _ => ⟨rfl, rfl, rfl⟩⟩⟩⟩
          rw [hmstate, hmphase, hp, Option.any_some, phaseWithin_iff]
          exact ⟨hlocked, hlow, hhigh⟩

end Sys2Proof.Machine
end

section
/-! SUPPORT. A pulse of the MARK pair that is classified (R27 to R29, R34, R35). -/

namespace Sys2Proof.Machine

/-- The station that classifies a pulse: the pair as the command leaves it, and its tick reached. -/
def State.atPulse (s : State) (asserted : Bool) (pulse : Option Pulse) (tick : Nat) : State :=
  ((s.setPins { s.pins with markAsserted := asserted }).setMark { s.mark with pulse := pulse }).reach tick

theorem State.unclassified_eq {s : State} {rise : Int} (hat : s.AtHut)
    (hpulse : s.mark.pulse = some { rise := rise, classified := false }) : s.unclassified = some rise := by
  have hactive : s.active = true := s.active_iff.mpr hat
  rw [State.unclassified, hpulse]
  simp [hactive]

/-- LEADER_PULSE classifies the pulse in progress, at or before 2 ms after its rise. -/
theorem exec_leaderPulse_classifies {s : State} {rise : Int} {tick : Nat} {temp : Int} (hat : s.AtHut)
    (hpulse : s.mark.pulse = some { rise := rise, classified := false }) (hshort : (tick : Int) - rise ≤ 20000) :
    exec (.leaderPulse tick temp) s =
      .next (((s.atPulse false none tick).classify .leader rise rise tick temp false).latchFrom s) := by
  dsimp only [exec, execLeaderPulse]
  rw [State.unclassified_eq hat hpulse]
  exact congrArg _ (if_pos hshort)

/-- FALLBACK_PULSE classifies the pulse in progress, 2 ms after its rise. -/
theorem exec_fallbackPulse_classifies {s : State} {rise : Int} {temp : Int} {others : Bool} (hat : s.AtHut)
    (hpulse : s.mark.pulse = some { rise := rise, classified := false }) :
    exec (.fallbackPulse temp others) s =
      .next (((s.atPulse s.pins.markAsserted (some { rise := rise, classified := true }) (rise + 20000).toNat).classify .fallback rise
        (rise - 50000) (rise + 20000).toNat temp others).latchFrom s) := by
  dsimp only [exec, execFallbackPulse]
  rw [State.unclassified_eq hat hpulse]
  rfl

/-- Either command classifies its pulse. -/
theorem exec_classifies {s : State} {c : Instr} {rise : Int} {kind : MarkKind} {marked : Int} {tick : Nat} (hat : s.AtHut)
    (hpulse : s.mark.pulse = some { rise := rise, classified := false }) (hc : Classifies c rise kind marked tick) :
    ∃ asserted pulse temp others, exec c s =
      .next (((s.atPulse asserted pulse tick).classify kind rise marked tick temp others).latchFrom s) := by
  rcases hc with ⟨temp, rfl, rfl, rfl, hshort⟩ | ⟨temp, others, rfl, rfl, rfl, rfl⟩
  · exact ⟨_, _, _, _, exec_leaderPulse_classifies hat hpulse hshort⟩
  · exact ⟨_, _, _, _, exec_fallbackPulse_classifies hat hpulse⟩

theorem State.PhaseOf.fold_eq {s : State} {marked phase : Int} (h : s.PhaseOf marked phase) : s.tb.fold marked = phase := by
  rw [h, Timebase.fold, Config.foldPoint]
  by_cases hmarked : marked < 5000000
  · rw [if_pos hmarked, if_neg (by omega)]
  · rw [if_neg hmarked, if_pos (by omega)]

theorem ofNextWatch_iff (p : Int) : ofNextWatch p = true ↔ 5000000 ≤ p := decide_eq_true_iff

theorem ofNextWatch_eq (p : Int) : ofNextWatch p = !decide (p < 5000000) := by
  rw [Bool.eq_iff_iff, ofNextWatch_iff]
  simp

/-- Whether the unit takes a pulse. -/
theorem State.takes_iff {s : State} {marked phase : Int} (h : s.PhaseOf marked phase) :
    s.mark.takes s.tb marked = true ↔ s.TakesMark marked phase := by
  unfold MarkUnit.takes State.TakesMark
  rw [h.fold_eq, Bool.and_eq_true, inSpan_iff, and_assoc, ofNextWatch_eq]
  by_cases hmarked : marked < 5000000 <;> simp [hmarked]

/-- What a classified pulse hands to the timebase. -/
def State.handsMark (s : State) (tick : Nat) (taken : Bool) (phase : Int) : EdgeOutcome :=
  handMark { s.tb with tick := max s.tb.tick tick } s.retention.drift s.disciplined taken phase

/-- A classified pulse that is not stepped to is recorded. -/
theorem State.classify_of_stay {s : State} {asserted : Bool} {pulse : Option Pulse} {tick : Nat} {kind : MarkKind}
    {rise marked phase : Int} {temp : Int} {others : Bool} (hphase : s.PhaseOf marked phase)
    (hstay : (s.handsMark tick (s.mark.takes s.tb marked) phase).step = false) :
    (s.atPulse asserted pulse tick).classify kind rise marked tick temp others =
      ((s.atPulse asserted pulse tick).takeEdge (s.handsMark tick (s.mark.takes s.tb marked) phase)).recordPulse kind rise marked phase
        (s.mark.takes s.tb marked) := by
  have hfold : (s.atPulse asserted pulse tick).tb.fold marked = phase := hphase.fold_eq
  unfold State.classify
  dsimp only
  rw [hfold]
  exact if_neg (fun hstep => Bool.false_ne_true (hstay.symm.trans hstep))

/-- A classified pulse that is stepped to. -/
theorem State.classify_of_step {s : State} {asserted : Bool} {pulse : Option Pulse} {tick : Nat} {kind : MarkKind}
    {rise marked phase : Int} {temp : Int} {others : Bool} (hphase : s.PhaseOf marked phase)
    (hstep : (s.handsMark tick (s.mark.takes s.tb marked) phase).step = true) :
    (s.atPulse asserted pulse tick).classify kind rise marked tick temp others =
      ((s.atPulse asserted pulse tick).takeEdge (s.handsMark tick (s.mark.takes s.tb marked) phase)).stepTo .markStep
        (some (kind, phase)) s.tb.timeState marked ((tick : Int) - marked).toNat temp others := by
  have hfold : (s.atPulse asserted pulse tick).tb.fold marked = phase := hphase.fold_eq
  unfold State.classify
  dsimp only
  rw [hfold]
  exact if_pos hstep

/-! ### What a recorded pulse leaves (R34, R35) -/

theorem State.recordPulse_mark_eq (s : State) (kind : MarkKind) (rise marked phase : Int) (taken : Bool) :
    (s.recordPulse kind rise marked phase taken).mark =
      if taken then
        if marked < 5000000 then
          { s.mark with
            fallback := s.mark.fallback || (decide (kind = .fallback) && decide (-20000 ≤ rise) && decide (rise ≤ 100000))
            watch := { s.mark.watch with taken := true } }
        else
          { s.mark with
            fallback := s.mark.fallback || (decide (kind = .fallback) && decide (-20000 ≤ rise) && decide (rise ≤ 100000))
            nextWatch := { s.mark.nextWatch with taken := true } }
      else
        { s.mark with
          fallback := s.mark.fallback || (decide (kind = .fallback) && decide (-20000 ≤ rise) && decide (rise ≤ 100000)) } := by
  unfold State.recordPulse MarkUnit.take
  rw [ofNextWatch_eq]
  cases taken with
  | false => rfl
  | true => by_cases hmarked : marked < 5000000 <;> simp [hmarked]

theorem State.recordPulse_table_eq (s : State) (kind : MarkKind) (rise marked phase : Int) (taken : Bool) :
    (s.recordPulse kind rise marked phase taken).table =
      if taken then
        if marked < 5000000 then s.table.recordMark kind phase else { s.table with early := some (kind, phase) }
      else s.table := by
  unfold State.recordPulse
  cases taken with
  | false => rfl
  | true =>
    simp only [ofNextWatch_eq]
    by_cases hmarked : marked < 5000000 <;> simp [hmarked]

theorem EpochTable.recordMark_openRow {t : EpochTable} {r : Row} (kind : MarkKind) (phase : Int) (h : t.openRow = some r) :
    (t.recordMark kind phase).openRow = some { r with markKind := kind, markPhase := some (max (-32767) (min 32767 phase)) } := by
  rw [← clampInt_eq _ _ _ (by decide)]
  exact (EpochTable.openRow_mapOpen t (fun r => { r with markKind := kind, markPhase := some (clampInt (-32767) 32767 phase) })
    fun _ => rfl).trans (congrArg _ h)

/-- A pulse that is classified and recorded, and what it hands to the timebase. -/
structure MarkRecorded (s t : State) (o : EdgeOutcome) (kind : MarkKind) (marked phase : Int) (taken : Bool) : Prop where
  tb : t.tb = o.tb
  retention : t.retention = { s.retention with drift := o.drift }
  member : t.member = s.member
  line : t.line = s.line
  raised : t.raised = s.raised
  current : taken = true → marked < 5000000 → t.mark.watch.taken = true ∧ t.table = s.table.recordMark kind phase
  next : taken = true → 5000000 ≤ marked → t.mark.nextWatch = { s.mark.nextWatch with taken := true } ∧ t.mark.watch = s.mark.watch ∧
    t.table = { s.table with early := some (kind, phase) }
  stray : taken = false → t.table = s.table

theorem State.recordPulse_latchFrom (s : State) (asserted : Bool) (pulse : Option Pulse) (tick : Nat) (o : EdgeOutcome) (kind : MarkKind)
    (rise marked phase : Int) (taken : Bool) :
    (((s.atPulse asserted pulse tick).takeEdge o).recordPulse kind rise marked phase taken).latchFrom s =
      ((s.atPulse asserted pulse tick).takeEdge o).recordPulse kind rise marked phase taken :=
  State.latchFrom_same _ _ (State.holding_congr _ _ (by rw [State.recordPulse_front]; rfl) (by rw [State.recordPulse_dec]; rfl)
    (by rw [State.recordPulse_corr]; rfl) (by rw [State.recordPulse_setup]; rfl) (by rw [State.recordPulse_events]; rfl)
    (by rw [State.recordPulse_check]; rfl) (by rw [State.recordPulse_member]; rfl))

theorem State.recordPulse_recorded (s : State) (asserted : Bool) (pulse : Option Pulse) (tick : Nat) (o : EdgeOutcome) (kind : MarkKind)
    (rise marked phase : Int) (taken : Bool) :
    MarkRecorded s (((s.atPulse asserted pulse tick).takeEdge o).recordPulse kind rise marked phase taken) o kind marked phase taken where
  tb := State.recordPulse_tb ..
  retention := State.recordPulse_retention ..
  member := State.recordPulse_member ..
  line := State.recordPulse_line ..
  raised := State.recordPulse_raised ..
  current htaken hmarked := by
    rw [State.recordPulse_mark_eq, State.recordPulse_table_eq, if_pos htaken, if_pos htaken, if_pos hmarked, if_pos hmarked]
    exact ⟨rfl, rfl⟩
  next htaken hmarked := by
    have hnot : ¬ marked < 5000000 := by omega
    rw [State.recordPulse_mark_eq, State.recordPulse_table_eq, if_pos htaken, if_pos htaken, if_neg hnot, if_neg hnot]
    exact ⟨rfl, rfl, rfl⟩
  stray htaken := by
    rw [State.recordPulse_table_eq, htaken]
    rfl

/-- A pulse of either kind that the timebase does not step to. -/
theorem exec_pulse_stays {s : State} {c : Instr} {rise : Int} {kind : MarkKind} {marked phase : Int} {tick : Nat} {taken : Bool}
    (hat : s.AtHut) (hpulse : s.mark.pulse = some { rise := rise, classified := false }) (hc : Classifies c rise kind marked tick)
    (hphase : s.PhaseOf marked phase) (htaken : s.mark.takes s.tb marked = taken) (hstay : (s.handsMark tick taken phase).step = false) :
    ∃ t, exec c s = .next t ∧ MarkRecorded s t (s.handsMark tick taken phase) kind marked phase taken := by
  subst htaken
  obtain ⟨asserted, pulse, temp, others, hexec⟩ := exec_classifies hat hpulse hc
  rw [State.classify_of_stay hphase hstay, State.recordPulse_latchFrom] at hexec
  exact ⟨_, hexec, State.recordPulse_recorded ..⟩

/-- A mark that does not discipline is kept as the last one, when it is taken. -/
theorem State.handsMark_undisciplined {s : State} (tick : Nat) (taken : Bool) (phase : Int) (h : s.disciplined = false) :
    s.handsMark tick taken phase =
      { tb := { s.tb with tick := max s.tb.tick tick, lastMarkPhase := if taken then some phase else s.tb.lastMarkPhase }
        drift := s.retention.drift, step := false } := by
  rw [State.handsMark, handMark, h]
  cases taken <;> rfl

/-- What a mark handed to a station that marks discipline does. -/
theorem State.handsMark_disciplined {s : State} (tick : Nat) (taken : Bool) (phase : Int) (h : s.disciplined = true) :
    s.handsMark tick taken phase =
      markEdgeOutcome { s.tb with tick := max s.tb.tick tick, lastMarkPhase := if taken then some phase else s.tb.lastMarkPhase }
        s.retention.drift taken phase := by
  rw [State.handsMark, handMark, h]
  cases taken <;> rfl

/-- A mark taken is kept as the last one whatever the time state makes of it. -/
theorem markEdgeOutcome_lastMarkPhase (tb : Timebase) (drift : Vector DriftBin 16) (taken : Bool) (phase : Int) :
    (markEdgeOutcome tb drift taken phase).tb.lastMarkPhase = tb.lastMarkPhase := by
  have henter (x : Timebase) (ts : TimeState) : (x.enter ts).lastMarkPhase = x.lastMarkPhase := by
    unfold Timebase.enter
    split <;> rfl
  have hfollow (x : Timebase) : (followSteer x drift taken phase).tb.lastMarkPhase = x.lastMarkPhase := by
    unfold followSteer
    split
    · rw [qualify_tb]
      rfl
    · rfl
  have hloss (x : Timebase) : x.markLoss.lastMarkPhase = x.lastMarkPhase := by
    unfold Timebase.markLoss
    split
    · rfl
    · exact henter _ _
  unfold markEdgeOutcome
  split
  case h_1 => exact henter _ _
  case h_2 | h_3 => rfl
  case h_4 =>
    dsimp only
    split
    · rfl
    · split
      · rfl
      · split
        · split
          · exact henter _ _
          · rfl
        · rfl
  case h_5 =>
    split
    · exact hfollow _
    · exact hloss _
  case h_6 =>
    split
    · exact (hfollow _).trans (henter _ _)
    · exact henter _ _

theorem State.handsMark_lastMarkPhase (s : State) (tick : Nat) (taken : Bool) (phase : Int) :
    (s.handsMark tick taken phase).tb.lastMarkPhase = if taken then some phase else s.tb.lastMarkPhase := by
  cases h : s.disciplined with
  | false => rw [State.handsMark_undisciplined tick taken phase h]
  | true => rw [State.handsMark_disciplined tick taken phase h, markEdgeOutcome_lastMarkPhase]

theorem followSteer_step (tb : Timebase) (drift : Vector DriftBin 16) (taken : Bool) (phase : Int) :
    (followSteer tb drift taken phase).step = false := by
  unfold followSteer
  split
  · exact qualify_step _ _
  · rfl

/-- The marks taken that are not stepped to. -/
theorem State.handsMark_stays {s : State} (tick : Nat) {phase : Int} (hlow : -20000 ≤ phase)
    (h : s.disciplined = false ∨ s.tb.timeState = .refAcquire ∨ s.tb.timeState = .locked ∨ s.tb.timeState = .following ∨
      (s.tb.timeState = .followAcquire ∧ s.tb.firstEdgeTaken = true ∧ phase ≤ 20000) ∨
      (s.tb.timeState = .holdover ∧ -20000 < phase ∧ phase < 20000)) : (s.handsMark tick true phase).step = false := by
  cases hdisciplined : s.disciplined with
  | false => rw [State.handsMark_undisciplined tick true phase hdisciplined]
  | true =>
    rw [State.handsMark_disciplined tick true phase hdisciplined]
    unfold markEdgeOutcome
    rcases h with h | h | h | h | ⟨h, hfirst, hhigh⟩ | ⟨h, hlow', hhigh⟩
    · exact absurd (h.symm.trans hdisciplined) (by decide)
    · rw [h]
    · rw [h]
    · rw [h]
      dsimp only
      split
      · exact followSteer_step _ _ _ _
      · rfl
    · have hwithin : phaseWithin 20000 phase = true := (phaseWithin_iff _ _).mpr ⟨hlow, hhigh⟩
      rw [h, hfirst, hwithin]
      dsimp only
      rw [if_neg (by decide), if_neg (by decide)]
      split <;> rfl
    · have hwithin : phaseWithin 19999 phase = true := (phaseWithin_iff _ _).mpr ⟨by omega, by omega⟩
      rw [h, hwithin]
      exact followSteer_step _ _ _ _

/-- Settles O13: a mark that does not discipline moves the last mark phase alone, and is recorded in the row that it marks. -/
theorem undisciplinedPulseIsOnlyRecorded : Obligations.UndisciplinedPulseIsOnlyRecorded := by
  refine ⟨fun s rise tick temp others r hat hpulse hdisciplined hopen huntaken hrow =>
    ⟨fun hlow hhigh hshort => ?leader, fun hlow hhigh => ?fallback⟩,
    fun s c rise kind marked phase tick hat hpulse hc hmarked hphase htakes hstay => ?next⟩
  case leader =>
    have hphase : s.PhaseOf rise rise := (if_pos (by omega)).symm
    have htaken : s.mark.takes s.tb rise = true := (State.takes_iff hphase).mpr ⟨hlow, hhigh, by rw [if_pos (by omega)]; exact ⟨hopen, huntaken⟩⟩
    have hhands := State.handsMark_undisciplined tick true rise hdisciplined
    have hexec := exec_leaderPulse_classifies (temp := temp) hat hpulse hshort
    rw [State.classify_of_stay hphase (by rw [htaken, hhands]), State.recordPulse_latchFrom, htaken, hhands] at hexec
    refine ⟨_, hexec, State.recordPulse_tb .., ?_, ?_, State.recordPulse_retention .., State.recordPulse_raised ..,
      State.recordPulse_member .., State.recordPulse_line ..⟩
    · rw [State.recordPulse_mark_eq, if_pos rfl, if_pos (by omega), decide_eq_false (by decide : MarkKind.leader ≠ .fallback),
        Bool.false_and, Bool.false_and, Bool.or_false]
      rfl
    · rw [State.recordPulse_table_eq, if_pos rfl, if_pos (by omega)]
      exact EpochTable.recordMark_openRow _ _ hrow
  case fallback =>
    have hphase : s.PhaseOf (rise - 50000) (rise - 50000) := (if_pos (by omega)).symm
    have htaken : s.mark.takes s.tb (rise - 50000) = true :=
      (State.takes_iff hphase).mpr ⟨by omega, by omega, by rw [if_pos (by omega)]; exact ⟨hopen, huntaken⟩⟩
    have hhands := State.handsMark_undisciplined (rise + 20000).toNat true (rise - 50000) hdisciplined
    have hexec := exec_fallbackPulse_classifies (temp := temp) (others := others) hat hpulse
    rw [State.classify_of_stay hphase (by rw [htaken, hhands]), State.recordPulse_latchFrom, htaken, hhands] at hexec
    refine ⟨_, hexec, State.recordPulse_tb .., ?_, ?_, State.recordPulse_retention .., State.recordPulse_raised ..,
      State.recordPulse_member .., State.recordPulse_line ..⟩
    · have hnear : (decide (MarkKind.fallback = .fallback) && decide (-20000 ≤ rise) && decide (rise ≤ 100000)) = true := by
        rw [decide_eq_true (by omega : -20000 ≤ rise), decide_eq_true (by omega : rise ≤ 100000)]
        rfl
      rw [State.recordPulse_mark_eq, if_pos rfl, if_pos (by omega), hnear, Bool.or_true]
      rfl
    · rw [State.recordPulse_table_eq, if_pos rfl, if_pos (by omega)]
      exact EpochTable.recordMark_openRow _ _ hrow
  case next =>
    have htaken : s.mark.takes s.tb marked = true := (State.takes_iff hphase).mpr htakes
    obtain ⟨t, hexec, hrecorded⟩ := exec_pulse_stays hat hpulse hc hphase htaken (State.handsMark_stays tick htakes.1 hstay)
    obtain ⟨hnext, hwatch, htable⟩ := hrecorded.next rfl hmarked
    refine ⟨t, hexec, ?_, hnext, hwatch, htable⟩
    rw [hrecorded.tb, State.handsMark_lastMarkPhase]
    rfl

end Sys2Proof.Machine
end

section
/-! SUPPORT. The other commands of the mark unit, and the steps they lead to (R7, R27 to R34). -/

namespace Sys2Proof.Machine

/-! ### What a step leaves of the row it cuts (R7, R52, R57, R88) -/

/-- The cells of an open row as a step damages them: an own transmission is aborted, and a reception in progress ends unfinished. -/
def State.cutCell (s : State) (r : Row) (k : Station) : Cell :=
  if s.line.rx.any (fun y => decide (y.state = .receiving) && decide (y.slot = k)) then Cell.damagedBy .unfinished
  else if s.line.tx.any (fun x => decide (x.slot = k)) then { r.cells[k] with state := .aborted } else r.cells[k]

theorem EpochTable.mapCell_openRow {t : EpochTable} {r : Row} (k : Station) (g : Cell → Cell) (h : t.openRow = some r) :
    (t.mapCell k g).openRow = some { r with cells := setAt r.cells k (g r.cells[k]) } :=
  (EpochTable.openRow_mapOpen t (fun r => { r with cells := setAt r.cells k (g r.cells[k]) }) fun _ => rfl).trans (congrArg _ h)

theorem State.endLineActivity_table_eq (s : State) : s.endLineActivity.table =
    match s.line.rx with
    | some y =>
      if y.state = .receiving then s.abortTransmission.table.mapCell y.slot fun _ => Cell.damagedBy .unfinished
      else s.abortTransmission.table
    | none => s.abortTransmission.table := by
  have hrx : s.abortTransmission.line.rx = s.line.rx := by rw [State.abortTransmission_line_eq]
  unfold State.endLineActivity
  dsimp only
  rw [hrx]
  cases s.line.rx with
  | none => rfl
  | some y =>
    dsimp only
    split <;> rfl

/-- The open row, its cells apart. -/
theorem State.endLineActivity_openRow {s : State} {r : Row} (h : s.table.openRow = some r) :
    ∃ cells, s.endLineActivity.table.openRow = some { r with cells := cells } ∧ ∀ k : Station, cells[k] = s.cutCell r k := by
  have habort : ∃ cells, s.abortTransmission.table.openRow = some { r with cells := cells } ∧
      ∀ k : Station, cells[k] = if s.line.tx.any (fun x => decide (x.slot = k)) then { r.cells[k] with state := .aborted } else r.cells[k] := by
    rw [State.abortTransmission_table_eq]
    cases s.line.tx with
    | none => exact ⟨r.cells, h, fun _ => rfl⟩
    | some x =>
      refine ⟨_, EpochTable.mapCell_openRow x.slot _ h, fun k => ?_⟩
      by_cases hk : x.slot = k
      · subst hk
        rw [Option.any_some, decide_eq_true rfl, if_pos rfl]
        exact setAt_self _ _ _
      · rw [Option.any_some, decide_eq_false hk, if_neg Bool.false_ne_true]
        exact setAt_ne _ _ _ _ (Ne.symm hk)
  obtain ⟨cells, hopen, hcells⟩ := habort
  rw [State.endLineActivity_table_eq]
  unfold State.cutCell
  cases s.line.rx with
  | none => exact ⟨cells, hopen, hcells⟩
  | some y =>
    by_cases hreceiving : y.state = .receiving
    · refine ⟨setAt cells y.slot (Cell.damagedBy .unfinished), (congrArg EpochTable.openRow (if_pos hreceiving)).trans
        (EpochTable.mapCell_openRow y.slot _ hopen), fun k => ?_⟩
      rw [Option.any_some, decide_eq_true hreceiving, Bool.true_and]
      by_cases hk : y.slot = k
      · subst hk
        rw [decide_eq_true rfl, if_pos rfl]
        exact setAt_self _ _ _
      · rw [decide_eq_false hk, if_neg Bool.false_ne_true]
        exact (setAt_ne _ _ _ _ (Ne.symm hk)).trans (hcells k)
    · refine ⟨cells, (congrArg EpochTable.openRow (if_neg hreceiving)).trans hopen, fun k => ?_⟩
      rw [Option.any_some, decide_eq_false hreceiving, Bool.false_and, if_neg Bool.false_ne_true]
      exact hcells k

/-- Without an open row the end of the line's activity changes no row. -/
theorem State.endLineActivity_table_of_none {s : State} (h : s.table.openRow = none) : s.endLineActivity.table = s.table := by
  have habort : s.abortTransmission.table = s.table := by
    rw [State.abortTransmission_table_eq]
    cases s.line.tx with
    | none => rfl
    | some x => exact EpochTable.mapOpen_of_none _ _ h
  rw [State.endLineActivity_table_eq, habort]
  cases s.line.rx with
  | none => rfl
  | some y =>
    dsimp only
    split
    · exact EpochTable.mapOpen_of_none _ _ h
    · rfl

section

variable {s : State} {kind : BoundaryKind} (cause : Option (MarkKind × Int)) (collected : TimeState) (shift : Int) (tick : Nat)
  (temp : Int) (others : Bool)

/-- A step opens a row that carries the mark it is taken to. -/
theorem State.stepTo_table_eq (hstep : kind.isStep = true) : (s.stepTo kind cause collected shift tick temp others).table =
    (s.cutAtStep kind collected tick temp others).table.openNew
      (Row.opened (s.cutAtStep kind collected tick temp others).tb.epochNumber
        (s.stepTo kind cause collected shift tick temp others).mark.currentLeader cause) := by
  rw [State.stepTo_eq, State.blocksAtBoundary_table_eq, State.blocksAtBoundary_mark_eq]
  cases kind with
  | counted => exact absurd hstep (by decide)
  | referenceStep | markStep => rfl

/-- The rows after a step that cuts one. -/
theorem State.stepTo_rows_of_open (hstep : kind.isStep = true) {r : Row} (hrow : s.table.openRow = some r) :
    ∃ cells number rest, (∀ k : Station, cells[k] = s.cutCell r k) ∧
      s.endLineActivity.table.openRow = some { r with cells := cells } ∧
      (s.stepTo kind cause collected shift tick temp others).table.rows =
        Row.opened number (s.stepTo kind cause collected shift tick temp others).mark.currentLeader cause ::
          { r with cells := cells, isOpen := false, cut := true } :: rest := by
  obtain ⟨cells, hopen, hcells⟩ := State.endLineActivity_openRow hrow
  rw [State.stepTo_table_eq _ _ _ _ _ _ hstep, State.cutAtStep_eq,
    State.closeRow_table_eq (s.beforeCut kind tick temp others) _ _ _ hopen]
  exact ⟨cells, _, _, hcells, hopen, rfl⟩

/-- The rows after a step with none to cut. -/
theorem State.stepTo_rows_of_none (hstep : kind.isStep = true) (hrow : s.table.openRow = none) :
    ∃ number, (s.stepTo kind cause collected shift tick temp others).table.rows =
      Row.opened number (s.stepTo kind cause collected shift tick temp others).mark.currentLeader cause ::
        (s.table.rows.take 3).map fun x => { x with isOpen := false } := by
  have htable : (s.beforeCut kind tick temp others).table = s.table := State.endLineActivity_table_of_none hrow
  rw [State.stepTo_table_eq _ _ _ _ _ _ hstep, State.cutAtStep_eq, State.closeRow_of_none _ _ _ (htable ▸ hrow), htable]
  exact ⟨_, rfl⟩

end

/-- Settles O10: a step cuts the open row and flushes the channels, and these are the edges and the marks that are stepped to. -/
theorem stepCutsRowAndFlushes : Obligations.StepCutsRowAndFlushes := by
  refine ⟨fun s t kind cause collected shift tick temp others r hrow hstep ht => ?cutting,
    fun s t kind cause collected shift tick temp others hrow hstep ht => ?uncut,
    fun s tick temp phase others hrunning henable hacquire hlocked hphase hfirst => ?reference,
    fun s rise phase tick temp hat hpulse hdisciplined hfree hshort hphase => ?mark⟩
  case cutting =>
    subst ht
    obtain ⟨cells, number, rest, hcells, -, hrows⟩ := State.stepTo_rows_of_open cause collected shift tick temp others hstep hrow
    refine ⟨_, _, _, hrows, rfl, rfl, rfl, fun k => Vector.getElem_replicate _, rfl, rfl, rfl, rfl, fun x hx hquiet => ?sent,
      fun y hy hreceiving => ?received, fun k hunsent hunreceived => ?kept, State.stepTo_line_eq .., fun i hkind =>
      State.stepTo_dec_get _ _ _ _ _ _ _ _ i hkind, fun i => State.stepTo_front_get _ _ _ _ _ _ _ _ i⟩
    case sent =>
      have hnot : s.line.rx.any (fun y => decide (y.state = .receiving) && decide (y.slot = x.slot)) = false := by
        cases hy : s.line.rx with
        | none => rfl
        | some y => simpa using hquiet y hy
      refine (hcells x.slot).trans ?_
      rw [State.cutCell, hnot, hx, Option.any_some, decide_eq_true rfl]
      rfl
    case received =>
      refine (hcells y.slot).trans ?_
      rw [State.cutCell, hy, Option.any_some, decide_eq_true hreceiving, decide_eq_true rfl]
      rfl
    case kept =>
      have hsent : s.line.tx.any (fun x => decide (x.slot = k)) = false := by
        cases hx : s.line.tx with
        | none => rfl
        | some x => simpa using hunsent x hx
      have hreceived : s.line.rx.any (fun y => decide (y.state = .receiving) && decide (y.slot = k)) = false := by
        cases hy : s.line.rx with
        | none => rfl
        | some y => simpa using hunreceived y hy
      refine (hcells k).trans ?_
      rw [State.cutCell, hsent, hreceived]
      rfl
  case uncut =>
    subst ht
    obtain ⟨number, hrows⟩ := State.stepTo_rows_of_none cause collected shift tick temp others hstep hrow
    exact ⟨_, hrows, rfl, rfl⟩
  case reference =>
    obtain ⟨edge, nextEdge, hexec⟩ := exec_referenceEdge_acquires (temp := temp) (others := others) hrunning henable hacquire hlocked hphase hfirst
    exact ⟨_, rfl, hexec⟩
  case mark =>
    have hhands (taken : Bool) : (s.handsMark tick taken phase).step = true ∧ (s.handsMark tick taken phase).drift = s.retention.drift := by
      rw [State.handsMark_disciplined tick taken phase hdisciplined]
      unfold markEdgeOutcome
      rw [hfree]
      exact ⟨rfl, rfl⟩
    obtain ⟨hstep, hdrift⟩ := hhands (s.mark.takes s.tb rise)
    have hexec := exec_leaderPulse_classifies (temp := temp) hat hpulse hshort
    rw [State.classify_of_step hphase hstep, hfree, State.takeEdge, hdrift] at hexec
    exact ⟨_, rfl, hexec⟩

end Sys2Proof.Machine
end

section
/-! SUPPORT. The rise of the MARK pair, the end of a watch, the own marks and the leader's mark at a boundary (R27 to R34). -/

namespace Sys2Proof.Machine

/-- Which watch sees a rise (R33). -/
theorem MarkUnit.seeRise_eq (m : MarkUnit) (tb : Timebase) (tick : Nat) :
    m.seeRise tb (tick : Int) = { m with
      lastRise := some (tick : Int)
      watch := { m.watch with riseSeen := m.watch.riseSeen || decide (tick < 50000) }
      nextWatch := { m.nextWatch with
        riseSeen := m.nextWatch.riseSeen ||
          (decide (5000000 ≤ tick) && decide (tb.epochLength - 20000 ≤ (tick : Int)) && decide ((tick : Int) < tb.epochLength + 50000)) } } := by
  unfold MarkUnit.seeRise
  dsimp only
  rw [Timebase.fold_tick, ofNextWatch_eq]
  by_cases hearly : tick < 5000000
  · have hlate : ¬ 5000000 ≤ tick := by omega
    have hfold : ((tick : Int) < 5000000) := by omega
    by_cases hseen : tick < 50000
    · have hspan : inSpan (tick : Int) = true := (inSpan_iff _).mpr ⟨by omega, by omega⟩
      simp [hearly, hlate, hfold, hseen, hspan]
    · have hspan : ¬ inSpan (tick : Int) = true := by
        rw [inSpan_iff]
        omega
      simp [hearly, hlate, hseen, hspan]
  · have hlate : 5000000 ≤ tick := by omega
    have hfold : ¬ ((tick : Int) < 5000000) := by omega
    have hseen : ¬ tick < 50000 := by omega
    by_cases hspan : inSpan ((tick : Int) - tb.epochLength) = true
    · obtain ⟨hlow, hhigh⟩ := (inSpan_iff _).mp hspan
      have hafter : tb.epochLength - 20000 ≤ (tick : Int) := by omega
      have hbefore : (tick : Int) < tb.epochLength + 50000 := by omega
      simp [hearly, hlate, hfold, hseen, hspan, hafter, hbefore]
    · have hout : ¬ (tb.epochLength - 20000 ≤ (tick : Int) ∧ (tick : Int) < tb.epochLength + 50000) := by
        intro h
        exact hspan ((inSpan_iff _).mpr ⟨by omega, by omega⟩)
      have hfalse : (decide (tb.epochLength - 20000 ≤ (tick : Int)) && decide ((tick : Int) < tb.epochLength + 50000)) = false := by
        rw [← Bool.decide_and]
        exact decide_eq_false hout
      rw [if_neg hearly, if_neg hspan, Bool.and_assoc, hfalse, Bool.and_false, Bool.or_false, decide_eq_false hseen, Bool.or_false]

/-- Settles O12: a rise of the pair begins a pulse and is seen by the watch in whose span it lies. -/
theorem markRiseBeginsPulse : Obligations.MarkRiseBeginsPulse := by
  intro s tick hat hreleased
  have hactive : (s.setPins { s.pins with markAsserted := true }).active = true := (State.active_iff _).mpr hat
  have hexec : exec (.markRise tick) s = .next (((s.setPins { s.pins with markAsserted := true }).reach tick).setMark
      { s.mark.seeRise s.tb tick with pulse := some { rise := tick, classified := false } }) := by
    dsimp only [exec, execMarkRise]
    rw [hreleased, if_neg Bool.false_ne_true, hactive, if_pos rfl]
    rfl
  rw [MarkUnit.seeRise_eq] at hexec
  exact ⟨_, hexec, rfl, rfl, rfl, rfl, rfl⟩

/-- What a watch that closes empty does to the timebase. -/
theorem Timebase.markAbsent_idle (tb : Timebase) (disciplines : Bool)
    (h : disciplines = false ∨ (tb.timeState ≠ .followAcquire ∧ tb.timeState ≠ .following)) :
    tb.markAbsent disciplines = { tb with lastMarkPhase := none } := by
  unfold Timebase.markAbsent
  rcases h with h | ⟨hacquire, hfollowing⟩
  · rw [h]
    rfl
  · dsimp only
    split
    · rfl
    · split
      case h_1 h => exact absurd h hacquire
      case h_2 h => exact absurd h hfollowing
      all_goals rfl

theorem Timebase.markAbsent_missed {tb : Timebase} (h : tb.timeState = .followAcquire ∨ tb.timeState = .following) :
    tb.markAbsent true = ({ tb with
      lastMarkPhase := none, missCount := tb.missCount + 1, settleCount := 0
      acquireCount := if tb.timeState = .followAcquire then 0 else tb.acquireCount } : Timebase).markLoss := by
  unfold Timebase.markAbsent
  rcases h with h | h <;> rw [h] <;> rfl

/-- The third mark miss holds over. -/
theorem Timebase.markLoss_eq {tb : Timebase} (h : tb.timeState ≠ .holdover) :
    tb.markLoss = if tb.missCount < 3 then tb
      else { tb with timeState := .holdover, missCount := 0, settleCount := 0, pendingLabel := none } := by
  rw [Timebase.markLoss, Timebase.enter_other h]
  rfl

/-- Settles O17: a watch that closes without a mark counts a miss while marks discipline. -/
theorem markAbsentCountsMiss : Obligations.MarkAbsentCountsMiss := by
  rintro s ⟨hrunning, hactive⟩
  have hexec (b : Bool) (hb : (s.mark.watch.isOpen && !s.mark.watch.taken) = b) : exec .markAbsent s =
      .next ((s.setTb (if b = true then ({ s.tb with tick := max s.tb.tick 120000 } : Timebase).markAbsent s.disciplined
        else { s.tb with tick := max s.tb.tick 120000 })).setMark
          { s.mark with watch := { s.mark.watch with isOpen := false } }) := by
    subst hb
    dsimp only [exec, execMarkAbsent]
    rw [atHut_active s _ hrunning hactive]
    refine congrArg _ ?_
    split <;> rfl
  by_cases hmissed : (s.mark.watch.isOpen && !s.mark.watch.taken) = true
  · obtain ⟨hopen, huntaken⟩ := Bool.and_eq_true_iff.mp hmissed
    have huntaken : s.mark.watch.taken = false := by simpa using huntaken
    refine ⟨_, hexec true hmissed, rfl, rfl, fun h => ?closed, fun _ _ => ?missed⟩
    case closed =>
      rcases h with h | h
      · exact absurd (h.symm.trans hopen) (by decide)
      · exact absurd (h.symm.trans huntaken) (by decide)
    case missed =>
      rw [State.setMark_tb, State.setTb_tb, if_pos rfl]
      by_cases hidle : s.disciplined = false ∨ (s.tb.timeState ≠ .followAcquire ∧ s.tb.timeState ≠ .following)
      · rw [Timebase.markAbsent_idle { s.tb with tick := max s.tb.tick 120000 } _ hidle]
        refine ⟨rfl, rfl, fun _ => ⟨rfl, rfl⟩, fun hdisciplined hstate => ?_⟩
        rcases hidle with h | ⟨hacquire, hfollowing⟩
        · exact absurd (h.symm.trans hdisciplined) (by decide)
        · exact absurd hstate (by tauto)
      · have hdisciplined : s.disciplined = true := by
          cases h : s.disciplined with
          | false => exact absurd (.inl h) hidle
          | true => rfl
        have hstate : s.tb.timeState = .followAcquire ∨ s.tb.timeState = .following := by tauto
        rw [hdisciplined, Timebase.markAbsent_missed (tb := { s.tb with tick := max s.tb.tick 120000 }) hstate,
          Timebase.markLoss_eq (by rcases hstate with h | h <;> (dsimp only; rw [h]; decide))]
        by_cases hfew : s.tb.missCount + 1 < 3
        · rw [if_pos hfew]
          refine ⟨rfl, rfl, fun h => absurd (by simpa [hdisciplined] using h) hidle, fun _ _ => ⟨rfl, fun _ => ⟨rfl, rfl⟩,
            fun _ hacquire => if_pos hacquire, fun h => by omega⟩⟩
        · rw [if_neg hfew]
          exact ⟨rfl, rfl, fun h => absurd (by simpa [hdisciplined] using h) hidle, fun _ _ => ⟨rfl, fun h => by omega, fun h => by omega,
            fun _ => ⟨rfl, rfl⟩⟩⟩
  · refine ⟨_, hexec false (by simpa using hmissed), rfl, rfl, fun _ => rfl, fun hopen huntaken => ?_⟩
    exact absurd (by rw [hopen, huntaken]; rfl) hmissed

/-- FALLBACK_MARK at work. -/
theorem exec_fallbackMark_eq {s : State} (hrunning : s.phase = .running) (hactive : s.member.state ≠ .halted) :
    exec .fallbackMark s = .next (if s.tb.tick ≤ 50000 ∧ s.member.state = .member ∧ ¬s.leading ∧ ¬s.mark.watch.riseSeen ∧
        ¬s.pins.markAsserted then (s.reach 50000).setMark { s.mark with drive := .fallback, fallback := true }
      else s.reach 50000) := by
  dsimp only [exec, execFallbackMark]
  rw [atHut_active s _ hrunning hactive]
  rfl

/-- Settles O18: a MEMBER that saw no mark drives a fallback mark at +5 ms, and the own marks end. -/
theorem ownMarksAreDrivenAndEnd : Obligations.OwnMarksAreDrivenAndEnd := by
  rintro s ⟨hrunning, hactive⟩
  refine ⟨fun htick hmember hleading hunseen hreleased => ?driven, fun hnot => ?silent, fun hdrive => ?fallbackEnd, fun hdrive => ?leaderEnd,
    rfl⟩
  case driven =>
    have hcond : s.tb.tick ≤ 50000 ∧ s.member.state = .member ∧ ¬s.leading ∧ ¬s.mark.watch.riseSeen ∧ ¬s.pins.markAsserted := by
      rw [hleading, hunseen, hreleased]
      exact ⟨htick, hmember, by decide, by decide, by decide⟩
    rw [exec_fallbackMark_eq hrunning hactive, if_pos hcond, State.reach, Timebase.reach, Nat.max_eq_right htick]
  case silent =>
    rw [exec_fallbackMark_eq hrunning hactive, if_neg (fun ⟨_, hmember, hleading, hunseen, hreleased⟩ => by tauto)]
    rfl
  case fallbackEnd =>
    dsimp only [exec, execFallbackMarkEnd]
    rw [atHut_active s _ hrunning hactive]
    exact congrArg _ (if_pos hdrive)
  case leaderEnd =>
    dsimp only [exec, execLeaderMarkEnd]
    rw [atHut_active s _ hrunning hactive]
    exact congrArg _ (if_pos hdrive)

/-! ### The leader's mark at a boundary (R30 to R32, R40) -/

/-- The three answers of a leader to the pair, and of a station that does not lead. -/
theorem MarkUnit.boundary_leads (m : MarkUnit) (kind : BoundaryKind) (leads asserted byFallback : Bool) :
    (leads = true → asserted = false → (m.boundary kind leads asserted byFallback).led = true ∧
      (m.boundary kind leads asserted byFallback).drive = .leader ∧ (m.boundary kind leads asserted byFallback).contention = false) ∧
    (leads = true → asserted = true → (m.boundary kind leads asserted byFallback).led = false ∧
      (m.boundary kind leads asserted byFallback).drive = m.drive ∧ (m.boundary kind leads asserted byFallback).contention = true) ∧
    (leads = false → (m.boundary kind leads asserted byFallback).led = false ∧
      (m.boundary kind leads asserted byFallback).drive = m.drive ∧ (m.boundary kind leads asserted byFallback).contention = false) := by
  refine ⟨?_, ?_, ?_⟩
  · rintro rfl rfl
    exact ⟨rfl, rfl, rfl⟩
  · rintro rfl rfl
    exact ⟨rfl, rfl, rfl⟩
  · rintro rfl
    exact ⟨rfl, rfl, rfl⟩

theorem Member.leads_iff (m : Member) (leader : Option Station) :
    m.leads leader = true ↔ m.state = .member ∧ m.number ≠ none ∧ leader = m.number := by
  simp [Member.leads, Option.isSome_iff_ne_none, and_assoc]

theorem Member.leads_of_not {m : Member} {leader : Option Station} (h : m.state ≠ .member ∨ leader ≠ m.number) : m.leads leader = false := by
  rw [← Bool.not_eq_true, Member.leads_iff]
  tauto

/-- A leader that finds the pair asserted raises CONTENTION. -/
theorem State.markBoundary_raises {s : State} {v : BoundaryView} (h : (s.markBoundary v).mark.contention = true)
    (hactive : s.member.state ≠ .halted) :
    (s.markBoundary v).raised.getLsbD 2 = true ∧ (s.markBoundary v).port.notices.getLsbD 2 = true := by
  unfold State.markBoundary at h ⊢
  rw [if_neg hactive] at h ⊢
  dsimp only at h ⊢
  rw [State.raiseIf_mark, State.setMark_mark] at h
  rw [h, State.raiseIf_true]
  simp [Condition.only, Condition.bit]

theorem State.blocksAtBoundary_raises_contention {s : State} {v : BoundaryView} {b : Bool}
    (h : (s.blocksAtBoundary v b).mark.contention = true) (hactive : s.member.state ≠ .halted) :
    (s.blocksAtBoundary v b).raised.getLsbD 2 = true ∧ (s.blocksAtBoundary v b).port.notices.getLsbD 2 = true := by
  rw [State.blocksAtBoundary_mark_eq] at h
  simp only [State.blocksAtBoundary, State.correctionBoundary_port, State.channelBoundary_port, State.openRow_port,
    State.lineBoundary_port, State.correctionBoundary_raised, State.channelBoundary_raised, State.openRow_raised,
    State.lineBoundary_raised]
  exact State.markBoundary_raises h hactive

end Sys2Proof.Machine
end

section
/-! SUPPORT. A leader's mark at a boundary, and marks that discipline the timebase (R5, R10, R13 to R16, R22, R29 to R32, R40). -/

namespace Sys2Proof.Machine

/-! ### The leader's mark (R30 to R32, R40) -/

/-- The mark unit of a station that is not HALTED after a step. -/
theorem State.stepTo_mark_eq {s : State} (kind : BoundaryKind) (cause : Option (MarkKind × Int)) (collected : TimeState) (shift : Int)
    (tick : Nat) (temp : Int) (others : Bool) (hactive : s.member.state ≠ .halted) :
    (s.stepTo kind cause collected shift tick temp others).mark =
      ((s.cutAtStep kind collected tick temp others).mark.rebase shift).boundary kind
        ((s.cutAtStep kind collected tick temp others).member.leads (s.cutAtStep kind collected tick temp others).mark.nextLeader)
        (s.assertedByOthers others) (cause.any fun c => decide (c.1 = .fallback)) := by
  rw [State.stepTo_eq, State.blocksAtBoundary_mark_eq, State.markBoundary_mark_eq,
    if_neg (mt (State.cutAtStep_halted_iff s _ _ _ _ _).mp hactive)]

/-- The leader that the epoch after a step has: the one that the cut close elects, and with no row open the one held before. -/
theorem State.cutAtStep_nextLeader {s : State} (kind : BoundaryKind) (collected : TimeState) (tick : Nat) (temp : Int) (others : Bool)
    (hactive : s.member.state ≠ .halted) :
    (s.cutAtStep kind collected tick temp others).mark.nextLeader =
      match s.endLineActivity.table.openRow with
      | some r => r.elect
      | none => s.mark.nextLeader := by
  rw [State.cutAtStep_eq]
  cases hrow : s.endLineActivity.table.openRow with
  | none => rw [State.closeRow_of_none (s.beforeCut kind tick temp others) _ _ hrow, State.beforeCut_mark]
  | some r =>
    rw [State.closeRow_mark_eq (s.beforeCut kind tick temp others) _ _ r hrow (by rw [State.beforeCut_member]; exact hactive)]
    rfl

theorem State.cutAtStep_drive (s : State) (kind : BoundaryKind) (collected : TimeState) (tick : Nat) (temp : Int) (others : Bool) :
    (s.cutAtStep kind collected tick temp others).mark.drive = .released := by
  rw [State.cutAtStep_eq]
  refine State.closeRow_cases (P := fun x => x.mark.drive = .released) _ _ _ (fun _ => by simp) (fun _ _ _ => by simp) fun r _ _ => ?_
  rw [State.closeBlocks_mark_eq, MarkUnit.close, State.setTable_mark, State.beforeCut_mark]

/-- The membership unit after a boundary has the state and the number from before it. -/
theorem Member.boundary_leads (m : Member) (chained : Bool) (shift : Int) (leader : Option Station) :
    (m.boundary chained shift).leads leader = m.leads leader := rfl

theorem anyFallback_iff (cause : Option (MarkKind × Int)) :
    (cause.any fun c => decide (c.1 = .fallback)) = true ↔ ∃ phase, cause = some (.fallback, phase) := by
  cases cause with
  | none => simp
  | some c =>
    obtain ⟨kind, phase⟩ := c
    simp

/-- Settles O19: at a boundary and at a step the elected leader drives its mark, or stands down when the pair is asserted. -/
theorem leaderMarksOrStandsDown : Obligations.LeaderMarksOrStandsDown := by
  refine ⟨fun s temp hat => ?counted, fun s t kind cause collected shift tick temp others asserted hactive hstep ht hasserted => ?stepped⟩
  case counted =>
    obtain ⟨hrunning, hactive⟩ := hat
    have hmark : (s.countedBoundary temp).mark = (s.mark.rebase s.tb.epochLength).boundary .counted (s.member.leads s.mark.nextLeader)
        s.pins.markAsserted false := by
      unfold State.countedBoundary
      rw [State.blocksAtBoundary_mark_eq, State.markBoundary_mark_eq, State.setTb_member, if_neg hactive]
      rfl
    obtain ⟨hdrives, hstands, hsilent⟩ := MarkUnit.boundary_leads (s.mark.rebase s.tb.epochLength) .counted
      (s.member.leads s.mark.nextLeader) s.pins.markAsserted false
    rw [← hmark] at hdrives hstands hsilent
    have hleads := Member.leads_iff s.member s.mark.nextLeader
    refine ⟨_, exec_ownBoundary_running s temp hrunning, ?_, ?_, fun hmember hnumber hleader hreleased => ?_,
      fun hmember hnumber hleader hasserted => ?_, fun hnot => hsilent (Member.leads_of_not hnot)⟩
    · exact congrArg (·.currentLeader) hmark
    · exact congrArg (·.fallback) hmark
    · exact hdrives (hleads.mpr ⟨hmember, hnumber, hleader⟩) hreleased
    · obtain ⟨hled, hdrive, hcontention⟩ := hstands (hleads.mpr ⟨hmember, hnumber, hleader⟩) hasserted
      obtain ⟨hraised, hnotice⟩ : (s.countedBoundary temp).raised.getLsbD 2 = true ∧
          (s.countedBoundary temp).port.notices.getLsbD 2 = true := State.blocksAtBoundary_raises_contention hcontention hactive
      exact ⟨hled, hdrive, hcontention, State.latchFrom_keeps _ _ _ hraised, State.latchFrom_notices_keeps _ _ _ hnotice⟩
  case stepped =>
    subst ht
    have hasserted' : s.assertedByOthers others = asserted := hasserted.symm
    have hmark := State.stepTo_mark_eq kind cause collected shift tick temp others hactive
    rw [hasserted'] at hmark
    have hleader : (s.stepTo kind cause collected shift tick temp others).mark.currentLeader =
        (s.cutAtStep kind collected tick temp others).mark.nextLeader := congrArg (·.currentLeader) hmark
    have hnext := State.cutAtStep_nextLeader kind collected tick temp others hactive
    have hcontends (h : (s.stepTo kind cause collected shift tick temp others).mark.contention = true) :
        (s.stepTo kind cause collected shift tick temp others).raised.getLsbD 2 = true ∧
          (s.stepTo kind cause collected shift tick temp others).port.notices.getLsbD 2 = true := by
      rw [State.stepTo_eq] at h ⊢
      exact State.blocksAtBoundary_raises_contention h (mt (State.cutAtStep_halted_iff s _ _ _ _ _).mp hactive)
    have hmember : (s.stepTo kind cause collected shift tick temp others).member =
        (s.cutAtStep kind collected tick temp others).member.boundary
          (true && chained s.setup (s.cutAtStep kind collected tick temp others).member) shift := by
      rw [State.stepTo_eq, State.blocksAtBoundary_member_eq, State.cutAtStep_setup]
    have hleads : (s.cutAtStep kind collected tick temp others).member.leads (s.cutAtStep kind collected tick temp others).mark.nextLeader =
        (s.stepTo kind cause collected shift tick temp others).member.leads
          (s.stepTo kind cause collected shift tick temp others).mark.currentLeader := by
      rw [hmember, hleader, Member.boundary_leads]
    rw [hleads] at hmark
    have hdrive := State.cutAtStep_drive s kind collected tick temp others
    obtain ⟨hdrives, hstands, hsilent⟩ := MarkUnit.boundary_leads ((s.cutAtStep kind collected tick temp others).mark.rebase shift) kind
      ((s.stepTo kind cause collected shift tick temp others).member.leads
        (s.stepTo kind cause collected shift tick temp others).mark.currentLeader) asserted
      (cause.any fun c : MarkKind × Int => decide (c.1 = .fallback))
    rw [← hmark] at hdrives hstands hsilent
    refine ⟨?pins, congrArg (·.nextLeader) hmark, fun hnone => ?uncut, fun hopen => ?cutting, ?fallback, fun hstate hnumber hleads' hreleased =>
      hdrives ((Member.leads_iff _ _).mpr ⟨hstate, hnumber, hleads'⟩) hreleased, fun hstate hnumber hleads' hpair => ?contends,
      fun hnot => ?silent⟩
    case pins => rw [State.stepTo_eq, State.blocksAtBoundary_pins, State.cutAtStep_pins, hasserted']
    case uncut =>
      rw [hleader, hnext, State.endLineActivity_table_of_none hnone, hnone]
    case cutting =>
      obtain ⟨r, hrow⟩ := Option.ne_none_iff_exists'.mp hopen
      obtain ⟨cells, number, rest, -, hrow', hrows⟩ := State.stepTo_rows_of_open cause collected shift tick temp others hstep hrow
      rw [hrow'] at hnext
      exact ⟨_, _, _, hrows, rfl, hleader.trans hnext, hleader.trans hnext⟩
    case fallback =>
      rw [congrArg (·.fallback) hmark]
      exact anyFallback_iff cause
    case contends =>
      obtain ⟨hled, hstood, hcontention⟩ := hstands ((Member.leads_iff _ _).mpr ⟨hstate, hnumber, hleads'⟩) hpair
      exact ⟨hled, hstood.trans hdrive, hcontention, hcontends hcontention⟩
    case silent =>
      obtain ⟨hled, hstood, hcontention⟩ := hsilent (Member.leads_of_not hnot)
      exact ⟨hled, hstood.trans hdrive, hcontention⟩

end Sys2Proof.Machine
end

section
/-! SUPPORT. Marks that discipline the timebase (R5, R8, R10, R13 to R16, R22). -/

namespace Sys2Proof.Machine

/-! ### FOLLOWING (R14, R22) -/

/-- Whether a follower steers to a mark, or misses one. -/
theorem markEdgeOutcome_following {tb : Timebase} (drift : Vector DriftBin 16) (taken : Bool) (phase : Int) (h : tb.timeState = .following) :
    markEdgeOutcome tb drift taken phase =
      if (taken && phaseWithin 20000 phase) = true then followSteer { tb with missCount := 0 } drift taken phase
      else { tb := tb.miss.markLoss, drift := drift, step := false } := by
  unfold markEdgeOutcome
  rw [h]

theorem followSteer_qualifies {tb : Timebase} (drift : Vector DriftBin 16) {phase : Int} (hrank : tb.leaderRank = some 0)
    (hlow : -100 < phase) (hhigh : phase < 100) : followSteer tb drift true phase = qualify (tb.steer phase) drift := by
  have hwithin : phaseWithin 99 phase = true := (phaseWithin_iff _ _).mpr ⟨by omega, by omega⟩
  rw [followSteer, hwithin, decide_eq_true hrank]
  rfl

theorem followSteer_plain {tb : Timebase} (drift : Vector DriftBin 16) (taken : Bool) {phase : Int}
    (h : tb.leaderRank ≠ some 0 ∨ phase ≤ -100 ∨ 100 ≤ phase) :
    followSteer tb drift taken phase = { tb := tb.steerPlain phase, drift := drift, step := false } := by
  have hnot : ¬ (taken && decide (tb.leaderRank = some 0) && phaseWithin 99 phase) = true := by
    rw [Bool.and_eq_true, Bool.and_eq_true, phaseWithin_iff, decide_eq_true_iff]
    rintro ⟨⟨-, hrank⟩, hlow, hhigh⟩
    rcases h with h | h | h
    · exact h hrank
    · omega
    · omega
  rw [followSteer, if_neg hnot]

/-- A mark steered to changes nothing of the timebase but its steering, its settle count and, in retention memory, a drift bin. -/
theorem followSteer_tb_eq (tb : Timebase) (drift : Vector DriftBin 16) (taken : Bool) (phase : Int) :
    (followSteer tb drift taken phase).tb = { tb with
      phaseTerm := phase.tdiv 4
      f := max (-10000) (min 10000 (tb.f + (phase * 100).tdiv 16))
      settleCount := (followSteer tb drift taken phase).tb.settleCount } := by
  unfold followSteer Timebase.steerPlain Timebase.steer
  rw [clampCorrection_eq]
  split
  · rw [qualify_tb]
  · rfl

/-- The timebase that takes a mark close by, before it is steered (R5, R8). -/
def State.markTaken (s : State) (tick : Nat) (phase : Int) : Timebase :=
  { s.tb with tick := max s.tb.tick tick, lastMarkPhase := some phase, missCount := 0 }

/-- Settles O14: in FOLLOWING a mark taken close by is steered to, and any other pulse is a miss. -/
theorem followerSteersToMarksOrMisses : Obligations.FollowerSteersToMarksOrMisses := by
  intro s c rise kind marked phase tick hat hpulse hc hdisciplined hfollowing hphase
  generalize htaken : s.mark.takes s.tb marked = taken
  have htakes : taken = true ↔ s.TakesMark marked phase := by rw [← htaken]; exact State.takes_iff hphase
  have hhands := (State.handsMark_disciplined tick taken phase hdisciplined).trans (markEdgeOutcome_following _ _ _ hfollowing)
  by_cases hsteers : (taken && phaseWithin 20000 phase) = true
  · rw [if_pos hsteers] at hhands
    obtain ⟨htake, hwithin⟩ := Bool.and_eq_true_iff.mp hsteers
    obtain ⟨-, hhigh⟩ := (phaseWithin_iff _ _).mp hwithin
    obtain ⟨t, hexec, hrecorded⟩ := exec_pulse_stays hat hpulse hc hphase htaken (by rw [hhands]; exact followSteer_step _ _ _ _)
    subst htake
    have hhands : s.handsMark tick true phase = followSteer (s.markTaken tick phase) s.retention.drift true phase := hhands
    have htb := hrecorded.tb.trans ((congrArg EdgeOutcome.tb hhands).trans (followSteer_tb_eq _ _ _ _))
    have hretention := hrecorded.retention
    rw [hhands] at hretention
    refine ⟨t, hexec, hrecorded.member, hrecorded.line, hrecorded.raised, congrArg (·.epochLength) htb, congrArg (·.epochNumber) htb,
      congrArg (·.sourceAge) htb, fun _ => ⟨congrArg (·.lastMarkPhase) htb, fun hearly => ?row⟩, fun h => absurd (htakes.mp rfl) h, fun _ _ =>
      ⟨(congrArg (·.timeState) htb).trans hfollowing, congrArg (·.phaseTerm) htb, congrArg (·.f) htb, congrArg (·.missCount) htb,
      fun hrank hlow hhigh' => ?qualifies, fun hnot => ?plain⟩, fun h => ?missed⟩
    case row =>
      obtain ⟨hwatch, htable⟩ := hrecorded.current rfl hearly
      exact ⟨hwatch, fun r hr => by rw [htable]; exact EpochTable.recordMark_openRow _ _ hr⟩
    case qualifies =>
      have hsettled : t.tb.settleCount = if s.tb.settleCount < 60 then s.tb.settleCount + 1 else s.tb.settleCount := by
        rw [hrecorded.tb, hhands, followSteer_qualifies (tb := s.markTaken tick phase) _ hrank hlow hhigh', qualify_tb]
        rfl
      rw [followSteer_qualifies (tb := s.markTaken tick phase) _ hrank hlow hhigh'] at hretention
      refine ⟨fun hfew => ⟨by rw [hsettled, if_pos hfew], ?_⟩, fun hmany => ⟨by rw [hsettled, if_neg (by omega)], ?_, fun j => ?_⟩⟩
      · rw [hretention, qualify_drift_settling ((s.markTaken tick phase).steer phase) _ hfew]
      · rw [hretention]
      · have hf : t.tb.f = max (-10000) (min 10000 (s.tb.f + (phase * 100).tdiv 16)) := congrArg (·.f) htb
        rw [hretention, hf, ← clampCorrection_eq]
        refine (qualify_drift ((s.markTaken tick phase).steer phase) _ (Nat.not_lt.mpr hmany) j).trans ?_
        rw [DriftBin.learn, countUp]
        rfl
    case plain =>
      have hplain := followSteer_plain (tb := s.markTaken tick phase) s.retention.drift true hnot
      refine ⟨?_, ?_⟩
      · rw [hrecorded.tb, hhands]
        exact congrArg (fun o : EdgeOutcome => o.tb.settleCount) hplain
      · rw [hretention]
        exact congrArg (fun o : EdgeOutcome => { s.retention with drift := o.drift }) hplain
    case missed =>
      rcases h with h | h
      · exact absurd (htakes.mp rfl) h
      · omega
  · rw [if_neg hsteers] at hhands
    have hnot : ¬ (s.TakesMark marked phase ∧ phase ≤ 20000) := by
      rintro ⟨htake, hhigh⟩
      exact hsteers (Bool.and_eq_true_iff.mpr ⟨htakes.mpr htake, (phaseWithin_iff _ _).mpr ⟨htake.1, hhigh⟩⟩)
    obtain ⟨t, hexec, hrecorded⟩ := exec_pulse_stays hat hpulse hc hphase htaken (by rw [hhands])
    have htb := (hrecorded.tb.trans (congrArg EdgeOutcome.tb hhands)).trans
      (Timebase.markLoss_eq (by exact ne_of_eq_of_ne hfollowing (by decide)))
    have hretention := hrecorded.retention
    rw [hhands] at hretention
    have hfields : t.tb = { s.tb with
        tick := max s.tb.tick tick
        lastMarkPhase := if taken then some phase else s.tb.lastMarkPhase
        settleCount := 0
        missCount := if s.tb.missCount < 2 then s.tb.missCount + 1 else 0
        timeState := if s.tb.missCount < 2 then .following else .holdover
        pendingLabel := if s.tb.missCount < 2 then s.tb.pendingLabel else none } := by
      by_cases hfew : s.tb.missCount < 2
      · rw [htb, if_pos hfew, if_pos hfew, if_pos hfew, ← hfollowing]
        exact if_pos (by change s.tb.missCount + 1 < 3; omega)
      · rw [htb, if_neg hfew, if_neg hfew, if_neg hfew]
        exact if_neg (by change ¬ s.tb.missCount + 1 < 3; omega)
    refine ⟨t, hexec, hrecorded.member, hrecorded.line, hrecorded.raised, by rw [hfields], by rw [hfields], by rw [hfields], fun htake =>
      ⟨by rw [hfields, htakes.mpr htake]; rfl, fun hearly => ?row⟩, fun hstray => ?stray, fun htake hhigh => absurd ⟨htake, hhigh⟩ hnot,
      fun _ => ⟨by rw [hfields], by rw [hfields], by rw [hfields], hretention, fun hfew => ?few, fun hmany => ?many⟩⟩
    case row =>
      obtain ⟨hwatch, htable⟩ := hrecorded.current (htakes.mpr htake) hearly
      exact ⟨hwatch, fun r hr => by rw [htable]; exact EpochTable.recordMark_openRow _ _ hr⟩
    case stray =>
      have huntaken : taken = false := by rw [← Bool.not_eq_true, htakes]; exact hstray
      exact ⟨by rw [hfields, huntaken]; rfl, hrecorded.stray huntaken⟩
    case few =>
      rw [hfields]
      exact ⟨if_pos hfew, if_pos hfew⟩
    case many =>
      rw [hfields]
      exact ⟨if_neg (by omega), if_neg (by omega)⟩

end Sys2Proof.Machine
end

section
/-! SUPPORT. Steps to a mark, and the marks that a station acquires (R7, R10, R13, R15, R16, R29). -/

namespace Sys2Proof.Machine

/-! ### The timebase that follows a mark stepped to (R7, R13, R16) -/

/-- A close in FOLLOW_ACQUIRE: a station that it makes leader holds over. -/
theorem Timebase.close_acquiring {tb : Timebase} (cut : Bool) (collected : TimeState) (leaders : Option Report) (rowEpoch : EpochNumber)
    (leads : Bool) (hstate : tb.timeState = .followAcquire) (hmisses : tb.missCount = 0) (hsettle : tb.settleCount = 0) :
    ∃ rank age held number source label, (tb.close cut collected leaders rowEpoch leads).tb = { tb with
      timeState := if leads = true then .holdover else .followAcquire
      leaderRank := rank, sourceAge := age, held := held, epochNumber := number, numberFrom := source, pendingLabel := label } := by
  have hlead (x : Timebase) (hx : x.timeState = .followAcquire) (hxmisses : x.missCount = 0) (hxsettle : x.settleCount = 0) :
      x.lead leads = { x with timeState := if leads = true then .holdover else .followAcquire
                              pendingLabel := if leads = true then none else x.pendingLabel } := by
    unfold Timebase.lead
    cases leads with
    | false => rw [← hx]; rfl
    | true =>
      rw [if_pos rfl, hx]
      refine (Timebase.enter_other (ne_of_eq_of_ne hx (by decide))).trans ?_
      simp [hxmisses, hxsettle]
  unfold Timebase.close
  dsimp only
  split
  · split
    · exact ⟨_, _, _, _, _, _, hlead _ hstate hmisses hsettle⟩
    · unfold Timebase.relabel
      split <;> split <;> exact ⟨_, _, _, _, _, _, hlead _ hstate hmisses hsettle⟩
  · exact ⟨_, _, _, _, _, _, hlead _ hstate hmisses hsettle⟩

section

variable {s : State} {kind : BoundaryKind} (cause : Option (MarkKind × Int)) (collected : TimeState) (shift : Int) (tick : Nat)
  (temp : Int) (others : Bool)

/-- The station that a step makes leader of the new epoch is the one that its cut close makes leader. -/
theorem State.stepTo_leads (hactive : s.member.state ≠ .halted) {r : Row} (hrow : s.endLineActivity.table.openRow = some r) :
    (s.stepTo kind cause collected shift tick temp others).member.leads
        (s.stepTo kind cause collected shift tick temp others).mark.currentLeader =
      (s.member.close r).leads r.elect := by
  have hleader : (s.stepTo kind cause collected shift tick temp others).mark.currentLeader = r.elect := by
    rw [State.stepTo_mark_eq kind cause collected shift tick temp others hactive]
    exact (State.cutAtStep_nextLeader kind collected tick temp others hactive).trans (by rw [hrow])
  have hcut : (s.cutAtStep kind collected tick temp others).member = s.member.close r := by
    rw [State.cutAtStep_eq, State.closeRow_member_eq (s.beforeCut kind tick temp others) _ _ r hrow
      (by rw [State.beforeCut_member]; exact hactive), State.beforeCut_member]
  rw [hleader, State.stepTo_eq, State.blocksAtBoundary_member_eq, Member.boundary_leads, hcut]

/-- A step in FOLLOW_ACQUIRE stays there, unless its cut close makes the station leader. -/
theorem State.stepTo_tb_following (hstep : kind.isStep = true) (hactive : s.member.state ≠ .halted) (hstate : s.tb.timeState = .followAcquire)
    (hmisses : s.tb.missCount = 0) :
    ∃ rank age held number source label, (s.stepTo kind cause collected shift tick temp others).tb =
      { s.tb.boundary s.retention.drift kind tick temp with
        timeState := if s.table.openRow ≠ none ∧ (s.stepTo kind cause collected shift tick temp others).member.leads
            (s.stepTo kind cause collected shift tick temp others).mark.currentLeader = true then .holdover else .followAcquire
        leaderRank := rank, sourceAge := age, held := held, epochNumber := number, numberFrom := source, pendingLabel := label } := by
  have hbstate : (s.tb.boundary s.retention.drift kind tick temp).timeState = .followAcquire := hstate
  have hbmisses : (s.tb.boundary s.retention.drift kind tick temp).missCount = 0 := hmisses
  have hbsettle : (s.tb.boundary s.retention.drift kind tick temp).settleCount = 0 := by
    rw [Timebase.boundary_step_eq _ _ _ hstep (ne_of_eq_of_ne hstate (by decide))]
  have htb : (s.stepTo kind cause collected shift tick temp others).tb = (s.cutAtStep kind collected tick temp others).tb := by
    rw [State.stepTo_eq, State.blocksAtBoundary_tb]
  rw [htb, State.cutAtStep_eq]
  cases hrow : s.table.openRow with
  | none =>
    have hnone : (s.beforeCut kind tick temp others).table.openRow = none := by
      rw [State.beforeCut_table, State.endLineActivity_table_of_none hrow, hrow]
    rw [State.closeRow_of_none _ _ _ hnone, if_neg (fun h => h.1 rfl), ← hbstate]
    exact ⟨_, _, _, _, _, _, rfl⟩
  | some r =>
    obtain ⟨cells, hopen, -⟩ := State.endLineActivity_openRow hrow
    have hleads := State.stepTo_leads (kind := kind) cause collected shift tick temp others hactive hopen
    rw [State.closeRow_tb_eq (s.beforeCut kind tick temp others) _ _ _ hopen (by rw [State.beforeCut_member]; exact hactive), hleads,
      State.beforeCut_tb, State.beforeCut_member]
    obtain ⟨rank, age, held, number, source, label, hclose⟩ := Timebase.close_acquiring (tb := s.tb.boundary s.retention.drift kind tick temp)
      true collected (Row.leadersReport { r with cells := cells } s.member.number) r.epoch
      ((s.member.close { r with cells := cells }).leads (Row.elect { r with cells := cells })) hbstate hbmisses hbsettle
    refine ⟨rank, age, held, number, source, label, hclose.trans ?_⟩
    simp only [ne_eq, reduceCtorEq, not_false_eq_true, true_and]

theorem State.stepTo_openRow (hstep : kind.isStep = true) : ∃ number leader,
    (s.stepTo kind cause collected shift tick temp others).table.openRow = some (Row.opened number leader cause) := by
  rw [State.stepTo_table_eq _ _ _ _ _ _ hstep]
  exact ⟨_, _, rfl⟩

end

/-- A pulse of either kind that is stepped to. -/
theorem exec_pulse_steps {s : State} {c : Instr} {rise : Int} {kind : MarkKind} {marked phase : Int} {tick : Nat} {taken : Bool}
    {tb : Timebase} (hat : s.AtHut) (hpulse : s.mark.pulse = some { rise := rise, classified := false })
    (hc : Classifies c rise kind marked tick) (hphase : s.PhaseOf marked phase) (htaken : s.mark.takes s.tb marked = taken)
    (hhands : s.handsMark tick taken phase = { tb := tb, drift := s.retention.drift, step := true })
    (hstate : tb.timeState = .followAcquire) (hfirst : tb.firstEdgeTaken = true) (hmisses : tb.missCount = 0) (hf : tb.f = s.tb.f) :
    ∃ t, exec c s = .next t ∧ SteppedToMark s t kind marked phase tick ∧ t.tb.acquireCount = tb.acquireCount := by
  subst htaken
  obtain ⟨asserted, pulse, temp, others, hexec⟩ := exec_classifies hat hpulse hc
  rw [State.classify_of_step hphase (by rw [hhands]), hhands] at hexec
  generalize hu : (s.atPulse asserted pulse tick).takeEdge { tb := tb, drift := s.retention.drift, step := true } = u at hexec
  have hutb : u.tb = tb := by subst hu; rfl
  have hmember : u.member = s.member := by subst hu; rfl
  have htable : u.table = s.table := by subst hu; rfl
  have hsetup : u.setup = s.setup := by subst hu; rfl
  have hactive : u.member.state ≠ .halted := by rw [hmember]; exact hat.2
  obtain ⟨rank, age, held, number, source, label, htb⟩ := State.stepTo_tb_following (kind := .markStep) (some (kind, phase)) s.tb.timeState
    marked ((tick : Int) - marked).toNat temp others rfl hactive (hutb ▸ hstate) (hutb ▸ hmisses)
  rw [Timebase.boundary_step_eq _ _ _ rfl (ne_of_eq_of_ne (hutb ▸ hstate) (by decide)), hutb, htable] at htb
  have hraises := State.stepTo_raises u .markStep (some (kind, phase)) s.tb.timeState marked ((tick : Int) - marked).toNat temp others
  refine ⟨_, hexec, { tick := ?_, timeState := ?_, time := ?_, raised := ?_, watch := ?_, warming := ?_, row := ?_ }, ?_⟩
  · rw [State.latchFrom_tb, htb]
  · rw [State.latchFrom_tb, State.latchFrom_member, State.latchFrom_mark, htb]
    exact if_congr (and_congr_right fun _ => Member.leads_iff _ _) rfl rfl
  · rw [State.latchFrom_tb, htb]
    exact ⟨hfirst, hmisses, rfl, hf, rfl⟩
  · exact ⟨State.latchFrom_keeps _ _ _ hraises.1, State.latchFrom_notices_keeps _ _ _ hraises.2⟩
  · rw [State.latchFrom_mark, State.stepTo_mark_eq _ _ _ _ _ _ _ hactive]
    exact ⟨rfl, rfl⟩
  · intro i hkind hcold
    have hwarm := State.stepTo_warmingHolds u .markStep (some (kind, phase)) s.tb.timeState marked ((tick : Int) - marked).toNat temp others i
      (by rw [hsetup]; exact hkind)
    obtain ⟨hbit, -, -⟩ := (u.stepTo .markStep (some (kind, phase)) s.tb.timeState marked ((tick : Int) - marked).toNat temp others).holding_bits
    exact ⟨hwarm, State.latchFrom_rises (hbit.trans hwarm) (s.holding_bits.1.trans hcold)⟩
  · obtain ⟨number, leader, hopen⟩ := State.stepTo_openRow (s := u) (kind := .markStep) (some (kind, phase)) s.tb.timeState marked
      ((tick : Int) - marked).toNat temp others rfl
    exact ⟨_, hopen, rfl, congrArg some (clampInt_eq _ _ _ (by decide))⟩
  · rw [State.latchFrom_tb, htb]

/-! ### FREE, FOLLOW_ACQUIRE and HOLDOVER (R10, R13, R15) -/

/-- Acquisition of a mark begins from FREE and from HOLDOVER. -/
theorem Timebase.enterAcquire_eq {tb : Timebase} (taken : Bool) (h : tb.timeState ≠ .followAcquire) :
    tb.enterAcquire .followAcquire taken = { tb with
      timeState := .followAcquire, missCount := 0, settleCount := 0, pendingLabel := none, acquireCount := 0, firstEdgeTaken := taken } := by
  rw [Timebase.enterAcquire, Timebase.enter_other h]
  rfl

/-- Settles O16: in FREE a mark that disciplines is stepped to. -/
theorem freeStationStepsToMark : Obligations.FreeStationStepsToMark := by
  intro s c rise kind marked phase tick hat hpulse hc hdisciplined hfree hphase
  generalize htaken : s.mark.takes s.tb marked = taken
  have hhands := State.handsMark_disciplined tick taken phase hdisciplined
  unfold markEdgeOutcome at hhands
  rw [hfree] at hhands
  dsimp only at hhands
  rw [Timebase.enterAcquire_eq _ (by exact ne_of_eq_of_ne hfree (by decide))] at hhands
  exact exec_pulse_steps hat hpulse hc hphase htaken hhands rfl rfl rfl rfl

end Sys2Proof.Machine
end

section
/-! SUPPORT. The marks that a station acquires in FOLLOW_ACQUIRE and HOLDOVER (R13, R15). -/

namespace Sys2Proof.Machine

/-- The timebase that a mark is handed to, with the last mark phase kept (R5). -/
def State.atMark (s : State) (tick : Nat) (taken : Bool) (phase : Int) : Timebase :=
  { s.tb with tick := max s.tb.tick tick, lastMarkPhase := if taken then some phase else s.tb.lastMarkPhase }

theorem State.handsMark_eq {s : State} (tick : Nat) (taken : Bool) (phase : Int) (h : s.disciplined = true) :
    s.handsMark tick taken phase = markEdgeOutcome (s.atMark tick taken phase) s.retention.drift taken phase :=
  State.handsMark_disciplined tick taken phase h

/-- The first mark in FOLLOW_ACQUIRE is stepped to. -/
theorem markEdgeOutcome_first {tb : Timebase} (drift : Vector DriftBin 16) (taken : Bool) (phase : Int) (h : tb.timeState = .followAcquire)
    (hfirst : tb.firstEdgeTaken = false) : markEdgeOutcome tb drift taken phase =
      { tb := { tb with firstEdgeTaken := true, missCount := 0 }, drift := drift, step := true } := by
  unfold markEdgeOutcome
  rw [h]
  dsimp only
  rw [hfirst]
  rfl

/-- A later mark that lies far off is stepped to. -/
theorem markEdgeOutcome_far {tb : Timebase} (drift : Vector DriftBin 16) (taken : Bool) {phase : Int} (h : tb.timeState = .followAcquire)
    (hfirst : tb.firstEdgeTaken = true) (hfar : phase < -20000 ∨ 20000 < phase) : markEdgeOutcome tb drift taken phase =
      { tb := { tb with acquireCount := 0, missCount := 0 }, drift := drift, step := true } := by
  have hwithin : phaseWithin 20000 phase = false := by
    rw [← Bool.not_eq_true, phaseWithin_iff]
    omega
  unfold markEdgeOutcome
  rw [h]
  dsimp only
  rw [hfirst, hwithin]
  rfl

/-- A later mark close by is steered to, and the fourth in a row that lies closer still leads to FOLLOWING. -/
theorem markEdgeOutcome_acquiring {tb : Timebase} (drift : Vector DriftBin 16) (taken : Bool) {phase : Int}
    (h : tb.timeState = .followAcquire) (hfirst : tb.firstEdgeTaken = true) (hlow : -20000 ≤ phase) (hhigh : phase ≤ 20000) :
    markEdgeOutcome tb drift taken phase =
      { tb := { tb with
          phaseTerm := phase.tdiv 4
          f := max (-10000) (min 10000 (tb.f + (phase * 100).tdiv 16))
          settleCount := 0
          missCount := if taken = true ∨ (-500 ≤ phase ∧ phase ≤ 500 ∧ 3 ≤ tb.acquireCount) then 0 else tb.missCount
          acquireCount := if -500 ≤ phase ∧ phase ≤ 500 then tb.acquireCount + 1 else 0
          timeState := if -500 ≤ phase ∧ phase ≤ 500 ∧ 3 ≤ tb.acquireCount then .following else .followAcquire
          pendingLabel := if -500 ≤ phase ∧ phase ≤ 500 ∧ 3 ≤ tb.acquireCount then none else tb.pendingLabel }
        drift := drift, step := false } := by
  have hwithin : phaseWithin 20000 phase = true := (phaseWithin_iff _ _).mpr ⟨hlow, hhigh⟩
  unfold markEdgeOutcome
  rw [h]
  dsimp only
  rw [hfirst, hwithin, if_neg (by decide), if_neg (by decide), Timebase.steerPlain, Timebase.steer, clampCorrection_eq]
  by_cases hclose : -500 ≤ phase ∧ phase ≤ 500
  · have hnear : phaseWithin 500 phase = true := (phaseWithin_iff _ _).mpr hclose
    obtain ⟨hlow', hhigh'⟩ := hclose
    rw [hnear, if_pos rfl]
    by_cases hfour : 3 ≤ tb.acquireCount
    · rw [if_pos (by dsimp only; omega), Timebase.enter_other (by exact ne_of_eq_of_ne h (by decide))]
      simp [hlow', hhigh', hfour, hfirst]
    · rw [if_neg (by dsimp only; omega)]
      simp [hlow', hhigh', hfour, h, hfirst]
  · have hnear : ¬ phaseWithin 500 phase = true := by rwa [phaseWithin_iff]
    have hnot : ¬ (-500 ≤ phase ∧ phase ≤ 500 ∧ 3 ≤ tb.acquireCount) := fun ⟨hlow', hhigh', _⟩ => hclose ⟨hlow', hhigh'⟩
    rw [if_neg hnear, if_neg hclose, if_neg hnot, if_neg hnot]
    simp only [hnot, or_false, h, hfirst]

/-- In HOLDOVER a mark close by is followed. -/
theorem markEdgeOutcome_followed {tb : Timebase} (drift : Vector DriftBin 16) (taken : Bool) {phase : Int} (h : tb.timeState = .holdover)
    (hlow : -20000 < phase) (hhigh : phase < 20000) : markEdgeOutcome tb drift taken phase =
      followSteer { tb with timeState := .following, missCount := 0, settleCount := 0, pendingLabel := none } drift taken phase := by
  have hwithin : phaseWithin 19999 phase = true := (phaseWithin_iff _ _).mpr ⟨by omega, by omega⟩
  unfold markEdgeOutcome
  rw [h]
  dsimp only
  rw [hwithin, if_pos rfl, Timebase.enter_other (ne_of_eq_of_ne h (by decide))]
  rfl

/-- In HOLDOVER a mark farther off is stepped to. -/
theorem markEdgeOutcome_lost {tb : Timebase} (drift : Vector DriftBin 16) (taken : Bool) {phase : Int} (h : tb.timeState = .holdover)
    (hfar : phase ≤ -20000 ∨ 20000 ≤ phase) : markEdgeOutcome tb drift taken phase =
      { tb := { tb with timeState := .followAcquire, missCount := 0, settleCount := 0, pendingLabel := none, acquireCount := 0
                        firstEdgeTaken := true }, drift := drift, step := true } := by
  have hwithin : ¬ phaseWithin 19999 phase = true := by
    rw [phaseWithin_iff]
    omega
  unfold markEdgeOutcome
  rw [h]
  dsimp only
  rw [if_neg hwithin, Timebase.enterAcquire_eq _ (ne_of_eq_of_ne h (by decide))]

/-- Settles O15: the marks that FOLLOW_ACQUIRE and HOLDOVER steer to, and the ones that they step to. -/
theorem acquiringMarksLeadToFollowing : Obligations.AcquiringMarksLeadToFollowing := by
  intro s c rise kind marked phase tick hat hpulse hc hdisciplined hphase
  generalize htaken : s.mark.takes s.tb marked = taken
  have htakes : taken = true ↔ s.TakesMark marked phase := by rw [← htaken]; exact State.takes_iff hphase
  have hhands := State.handsMark_eq tick taken phase hdisciplined
  have hlast (h : s.TakesMark marked phase) : (s.atMark tick taken phase).lastMarkPhase = some phase := by rw [htakes.mpr h]; rfl
  refine ⟨fun hstate hfirst hlow hhigh => ?acquires, fun hstate hfirst => ?first, fun hstate hfirst hfar => ?far,
    fun hstate hlow hhigh => ?follows, fun hstate hfar => ?lost⟩
  case acquires =>
    have ho := hhands.trans (markEdgeOutcome_acquiring (tb := s.atMark tick taken phase) _ taken hstate hfirst hlow hhigh)
    obtain ⟨t, hexec, hrecorded⟩ := exec_pulse_stays hat hpulse hc hphase htaken (by rw [ho])
    have htb := hrecorded.tb.trans (congrArg EdgeOutcome.tb ho)
    have hretention := hrecorded.retention.trans (congrArg (fun o : EdgeOutcome => { s.retention with drift := o.drift }) ho)
    have hmisses := congrArg (·.missCount) htb
    have hcount := congrArg (·.acquireCount) htb
    have htime := congrArg (·.timeState) htb
    refine ⟨t, hexec, congrArg (·.phaseTerm) htb, congrArg (·.f) htb, congrArg (·.settleCount) htb, congrArg (·.sourceAge) htb, hretention,
      hrecorded.member, fun htake => ⟨(congrArg (·.lastMarkPhase) htb).trans (hlast htake), hmisses.trans (if_pos (.inl (htakes.mpr htake))),
      fun hearly => (hrecorded.current (htakes.mpr htake) hearly).1⟩, fun hstray => ?_, fun hwide => ⟨htime.trans (if_neg (by omega)),
      hcount.trans (if_neg (by omega)), fun hstray => hmisses.trans (if_neg ?_)⟩, fun hlow' hhigh' hfew => ⟨htime.trans (if_neg ?_),
      hcount.trans (if_pos ⟨hlow', hhigh'⟩)⟩, fun hlow' hhigh' hmany => ⟨htime.trans (if_pos ⟨hlow', hhigh', hmany⟩),
      hmisses.trans (if_pos (.inr ⟨hlow', hhigh', hmany⟩))⟩⟩
    · have huntaken : taken = false := by rw [← Bool.not_eq_true, htakes]; exact hstray
      exact (congrArg (·.lastMarkPhase) htb).trans (by rw [huntaken])
    · rintro (htake | ⟨hlow', hhigh', -⟩)
      · exact hstray (htakes.mp htake)
      · omega
    · exact fun ⟨_, _, hmany⟩ => absurd hfew (Nat.not_lt.mpr hmany)
  case first =>
    obtain ⟨t, hexec, hstepped, -⟩ := exec_pulse_steps hat hpulse hc hphase htaken
      (hhands.trans (markEdgeOutcome_first (tb := s.atMark tick taken phase) _ taken phase hstate hfirst)) hstate rfl rfl rfl
    exact ⟨t, hexec, hstepped⟩
  case far =>
    exact exec_pulse_steps hat hpulse hc hphase htaken
      (hhands.trans (markEdgeOutcome_far (tb := s.atMark tick taken phase) _ taken hstate hfirst hfar)) hstate hfirst rfl rfl
  case follows =>
    have ho := hhands.trans (markEdgeOutcome_followed (tb := s.atMark tick taken phase) _ taken hstate hlow hhigh)
    obtain ⟨t, hexec, hrecorded⟩ := exec_pulse_stays hat hpulse hc hphase htaken (by rw [ho]; exact followSteer_step _ _ _ _)
    have htb := (hrecorded.tb.trans (congrArg EdgeOutcome.tb ho)).trans (followSteer_tb_eq _ _ _ _)
    exact ⟨t, hexec, congrArg (·.timeState) htb, congrArg (·.phaseTerm) htb, congrArg (·.f) htb, congrArg (·.missCount) htb,
      congrArg (·.sourceAge) htb, hrecorded.member, fun htake => ⟨(congrArg (·.lastMarkPhase) htb).trans (hlast htake),
      fun hearly => (hrecorded.current (htakes.mpr htake) hearly).1⟩⟩
  case lost =>
    exact exec_pulse_steps hat hpulse hc hphase htaken
      (hhands.trans (markEdgeOutcome_lost (tb := s.atMark tick taken phase) _ taken hstate hfar)) rfl rfl rfl rfl

end Sys2Proof.Machine
end

section
/-! SUPPORT. The row close (R87 to R89): the row, the election, the timebase, the membership unit, the roster and the archive entry. -/

namespace Sys2Proof.Machine

/-! ### ROW_CLOSE -/

/-- The station that ROW_CLOSE leaves, before what rises is latched. -/
def State.rowClosed (s : State) : State := (s.reach 9000000).closeRow false s.tb.timeState

theorem exec_rowClose_running {s : State} (h : s.phase = .running) : exec .rowClose s = .next (s.rowClosed.latchFrom s) := by
  dsimp only [exec, execRowClose]
  rw [atWork_running s _ h]
  rfl

section

variable {s : State} {r : Row} (hactive : s.member.state ≠ .halted) (hrow : s.table.openRow = some r)
include hactive hrow

/-- The open row as the close at 900 ms leaves it. -/
theorem State.rowClosed_eq : s.rowClosed =
    ((s.reach 9000000).setTable ((s.reach 9000000).table.mapOpen fun _ => { r with isOpen := false, cut := false })).closeBlocks false
      s.tb.timeState { r with isOpen := false, cut := false } :=
  State.closeRow_of_open _ _ _ _ hrow hactive

theorem State.rowClosed_mark : s.rowClosed.mark = s.mark.close r := State.closeRow_mark_eq _ _ _ _ hrow hactive

theorem State.rowClosed_member : s.rowClosed.member = s.member.close r := State.closeRow_member_eq _ _ _ _ hrow hactive

theorem State.rowClosed_tb : s.rowClosed.tb =
    (({ s.tb with tick := max s.tb.tick 9000000 } : Timebase).close false s.tb.timeState (r.leadersReport s.member.number) r.epoch
      ((s.member.close r).leads r.elect)).tb :=
  State.closeRow_tb_eq (s.reach 9000000) _ _ _ hrow hactive

theorem State.rowClosed_events : s.rowClosed.events = { s.events with edgeSeen := false } := by
  rw [State.rowClosed_eq hactive hrow, State.closeBlocks_events_eq]
  rfl

theorem State.rowClosed_retention : s.rowClosed.retention =
    if s.member.state = .member ∧ s.retention.nextSeq < maxCount32 then { s.retention with nextSeq := s.retention.nextSeq + 1 }
    else s.retention := by
  rw [State.rowClosed_eq hactive hrow, State.closeBlocks_retention_eq]
  rfl

theorem State.rowClosed_archive : s.rowClosed.archive =
    if s.member.state = .member ∧ s.retention.nextSeq < maxCount32 then
      s.archive.join (formEntry s.retention.nextSeq { r with isOpen := false, cut := false } s.member.number s.events.edgeSeen)
    else s.archive := by
  rw [State.rowClosed_eq hactive hrow, State.closeBlocks_archive_eq]
  rfl

end

/-! ### The row and the mark unit (R36 to R40, R87, R88) -/

/-- The stations in ascending order that a current leader makes. -/
theorem filter_isLeader (current : Option Station) : stations.filter (fun k => decide (current = some k)) = current.toList := by
  revert current
  decide

theorem Row.disagrees_iff (r : Row) (current : Option Station) :
    r.disagrees current = true ↔ ¬∀ k : Station, (∃ x, r.cells[k].state = .received ∧ r.cells[k].report = some x ∧ x.led = true) ↔
      current = some k := by
  have hled (k : Station) : (∃ x, r.cells[k].state = .received ∧ r.cells[k].report = some x ∧ x.led = true) ↔ k ∈ r.ledStations := by
    rw [Row.mem_ledStations_iff]
    exact exists_congr fun x => and_assoc.symm
  rw [Row.disagrees, decide_eq_true_iff, not_iff_not]
  constructor
  · intro h k
    rw [hled, h, Option.mem_toList]
  · intro h
    rw [← filter_isLeader current, Row.ledStations]
    refine List.filter_congr fun k _ => ?_
    rw [Bool.eq_iff_iff, decide_eq_true_iff, ← h k, hled, Row.ledStations, List.mem_filter]
    exact ⟨fun hk => ⟨mem_stations k, hk⟩, fun hk => hk.2⟩

/-- Settles O21: the close at 900 ms closes the row, and the mark unit counts, compares and elects; in HALTED the row alone changes. -/
theorem rowCloseClosesRowAndElects : Obligations.RowCloseClosesRowAndElects := by
  refine ⟨fun s r hat hrow => ?active, fun s r hrunning hhalted hrow => ?halted⟩
  case active =>
    obtain ⟨hrunning, hactive⟩ := hat
    have hmark := State.rowClosed_mark hactive hrow
    have htable : s.rowClosed.table = { s.table with rows := { r with isOpen := false, cut := false } :: s.table.rows.tail } :=
      State.closeRow_table_eq (s.reach 9000000) _ _ _ hrow
    refine ⟨_, exec_rowClose_running hrunning, congrArg (·.rows) htable, congrArg (·.early) htable, ?mark, ?disagreement,
      State.closeRow_line _ _ _, State.closeRow_front _ _ _, State.closeRow_dec _ _ _, State.closeRow_corr _ _ _,
      State.closeRow_setup _ _ _, State.closeRow_store _ _ _, State.closeRow_pins _ _ _, State.rowClosed_events hactive hrow⟩
    case mark =>
      rw [State.latchFrom_mark, hmark]
      rfl
    case disagreement =>
      rw [State.latchFrom_mark, hmark]
      exact r.disagrees_iff _
  case halted =>
    have hclosed : s.rowClosed = (s.reach 9000000).setTable
        { s.table with rows := { r with isOpen := false, cut := false } :: s.table.rows.tail } := by
      rw [State.rowClosed, State.closeRow_of_halted (s.reach 9000000) _ _ r hrow hhalted]
      exact congrArg _ (EpochTable.mapOpen_of_open s.table _ _ hrow)
    rw [exec_rowClose_running hrunning, hclosed]
    exact congrArg _ (State.latchFrom_same _ _ (State.holding_congr _ _ rfl rfl rfl rfl rfl rfl rfl))

/-! ### The timebase (R16 to R18, R20) -/

/-- The leader's report of a row, to another station. -/
theorem Row.leadersReport_eq (r : Row) (own : Option Station) : r.leadersReport own =
    match r.leader with
    | some k => if own ≠ some k ∧ r.cells[k].state = .received then r.cells[k].report else none
    | none => none := by
  unfold Row.leadersReport Row.reportOf Cell.reportIn Cell.received
  cases r.leader with
  | none => rfl
  | some k =>
    by_cases hown : own = some k
    · simp [hown]
    · simp [hown]

theorem Timebase.lead_eq (tb : Timebase) (leads : Bool) : tb.lead leads =
    { tb with
      timeState := (tb.lead leads).timeState, missCount := (tb.lead leads).missCount, settleCount := (tb.lead leads).settleCount
      pendingLabel := (tb.lead leads).pendingLabel } := by
  have henter : tb.enter .holdover = { tb with
      timeState := (tb.enter .holdover).timeState, missCount := (tb.enter .holdover).missCount
      settleCount := (tb.enter .holdover).settleCount, pendingLabel := (tb.enter .holdover).pendingLabel } := by
    unfold Timebase.enter
    split <;> rfl
  unfold Timebase.lead
  split
  · split
    case h_1 | h_2 => exact henter
    all_goals rfl
  · rfl

theorem Timebase.lead_timeState (tb : Timebase) (leads : Bool) : (tb.lead leads).timeState =
    if leads = true ∧ (tb.timeState = .following ∨ tb.timeState = .followAcquire) then .holdover else tb.timeState := by
  cases leads with
  | false => rfl
  | true =>
    unfold Timebase.lead
    rw [if_pos rfl]
    split <;> rename_i hstate <;> simp [hstate, Timebase.enter]

/-- What a close makes of the timebase, by its parts. -/
theorem Timebase.close_tb_eq (tb : Timebase) (collected : TimeState) (leaders : Option Report) (rowEpoch : EpochNumber) (leads : Bool) :
    (tb.close false collected leaders rowEpoch leads).tb = ({ tb with
      sourceAge := ageAfterClose collected tb.sourceAge leaders
      leaderRank := leaders.map Report.rank
      held := match leaders with
        | some x =>
          if x.epoch = rowEpoch ∨ tb.held.any HeldNumber.byLabel = true then tb.held
          else some { number := x.epoch + 1, byLabel := false }
        | none => tb.held } : Timebase).lead leads := by
  unfold Timebase.close Timebase.relabel
  cases leaders with
  | none => rfl
  | some x =>
    dsimp only
    by_cases hepoch : x.epoch = rowEpoch
    · rw [if_pos hepoch, if_pos (.inl hepoch)]
    · rw [if_neg hepoch, if_neg Bool.false_ne_true]
      by_cases hlabel : tb.held.any HeldNumber.byLabel = true
      · rw [if_pos hlabel, if_pos (.inr hlabel)]
      · rw [if_neg hlabel, if_neg (not_or.mpr ⟨hepoch, hlabel⟩)]

/-- A leader's report with another number relabels the epoch to come. -/
theorem Timebase.close_relabeled {tb : Timebase} {collected : TimeState} {x : Report} {rowEpoch : EpochNumber} {leads : Bool}
    (hepoch : x.epoch ≠ rowEpoch) (hlabel : tb.held.any HeldNumber.byLabel = false) :
    (tb.close false collected (some x) rowEpoch leads).relabeled = true := by
  unfold Timebase.close Timebase.relabel
  dsimp only
  rw [if_neg hepoch, if_neg Bool.false_ne_true, hlabel]
  rfl

theorem State.closeBlocks_raises_relabeled {s : State} {cut : Bool} {collected : TimeState} {r : Row}
    (h : (s.tb.close cut collected (r.leadersReport s.member.number) r.epoch ((s.member.close r).leads r.elect)).relabeled = true) :
    (s.closeBlocks cut collected r).raised.getLsbD 1 = true ∧ (s.closeBlocks cut collected r).port.notices.getLsbD 1 = true := by
  have hraise (x : State) : (x.raise .relabeled).raised.getLsbD 1 = true ∧ (x.raise .relabeled).port.notices.getLsbD 1 = true := by
    simp [Condition.only, Condition.bit]
  unfold State.closeBlocks
  dsimp only
  rw [h, State.raiseIf_true]
  split
  · exact State.archiveClose_keeps _ _ _ _ _ (hraise _)
  · exact hraise _

/-- Settles O22: the close moves the leader's rank, the source age, the number held and, for a station that it makes leader, the time
state. -/
theorem rowCloseMovesTimebase : Obligations.RowCloseMovesTimebase := by
  rintro s r leaders ⟨hrunning, hactive⟩ hrow hleaders
  have hreport : r.leadersReport s.member.number = leaders := (r.leadersReport_eq _).trans hleaders.symm
  have hclose := State.rowClosed_tb hactive hrow
  rw [hreport] at hclose
  have htb := hclose.trans (Timebase.close_tb_eq ..)
  have hparts := htb.trans (Timebase.lead_eq _ _)
  have hany (hlabels : ∀ h, s.tb.held = some h → h.byLabel = false) : s.tb.held.any HeldNumber.byLabel = false := by
    cases hheld : s.tb.held with
    | none => rfl
    | some h => exact hlabels h hheld
  refine ⟨_, exec_rowClose_running hrunning, congrArg (·.leaderRank) hparts, (congrArg (·.sourceAge) hparts).trans ?age,
    ((congrArg (·.timeState) htb).trans (Timebase.lead_timeState _ _)).trans ?timeState, fun x hx hepoch hlabels => ?relabel, fun hsame =>
    (congrArg (·.held) hparts).trans ?held, congrArg (·.f) hparts, congrArg (·.epochNumber) hparts, congrArg (·.epochLength) hparts,
    congrArg (·.phaseTerm) hparts⟩
  case age =>
    dsimp only
    unfold ageAfterClose countUp maxCount32
    cases s.tb.timeState <;> cases leaders <;> rfl
  case timeState =>
    refine if_congr ?_ rfl rfl
    rw [State.latchFrom_member, State.rowClosed_member hactive hrow, Member.leads_iff, and_assoc, and_assoc]
  case relabel =>
    subst hx
    have hnone := hany hlabels
    refine ⟨(congrArg (·.held) hparts).trans (if_neg (not_or.mpr ⟨hepoch, by rw [hnone]; decide⟩)), ?_⟩
    have hraises : s.rowClosed.raised.getLsbD 1 = true ∧ s.rowClosed.port.notices.getLsbD 1 = true := by
      rw [State.rowClosed_eq hactive hrow]
      refine State.closeBlocks_raises_relabeled ?_
      exact (congrArg (fun l => (Timebase.close _ _ _ l _ _).relabeled) hreport).trans (Timebase.close_relabeled hepoch hnone)
    exact ⟨State.latchFrom_keeps _ _ _ hraises.1, State.latchFrom_notices_keeps _ _ _ hraises.2⟩
  case held =>
    cases hl : leaders with
    | none => rfl
    | some x => exact if_pos (.inl (hsame x hl))

end Sys2Proof.Machine
end

section
/-! SUPPORT. The row close (R73, R77, R80, R81, R159 to R162): the membership unit, the roster and the archive entry. -/

namespace Sys2Proof.Machine

/-! ### The membership unit (R73, R77) -/

theorem Member.close_of_joining {m : Member} {r : Row} (h : m.state = .joining) :
    m.close r = ({ m with roster := mapAllIdx m.roster fun k e => e.close r.cells[k] } : Member).countJoin r.markKind := by
  unfold Member.close
  rw [h]

theorem Member.close_of_conflict {m : Member} {r : Row} {k : Station} (h : m.state = .conflict) (hk : m.number = some k) :
    m.close r = ({ m with roster := mapAllIdx m.roster fun k e => e.close r.cells[k] } : Member).countQuiet r.cells[k].state := by
  unfold Member.close
  rw [h, hk]
  rfl

theorem Member.close_of_other {m : Member} {r : Row} (hjoining : m.state ≠ .joining) (hconflict : m.state ≠ .conflict) :
    m.close r = { m with roster := mapAllIdx m.roster fun k e => e.close r.cells[k] } := by
  unfold Member.close
  split
  case h_1 h => exact absurd h hjoining
  case h_2 h => exact absurd h hconflict
  all_goals rfl

/-- Settles O23: JOINING counts closes with and without a mark, CONFLICT counts the closes at which its number is quiet. -/
theorem rowCloseMovesMembership : Obligations.RowCloseMovesMembership := by
  rintro s r ⟨hrunning, hactive⟩ hrow
  refine ⟨_, exec_rowClose_running hrunning, ?_⟩
  rw [State.latchFrom_member, State.rowClosed_member hactive hrow]
  refine ⟨Member.close_number _ _, fun hjoining hmarked => ?marked, fun hjoining hsilent => ?silent, fun k hconflict hk => ?conflict,
    fun hjoining hconflict => ?other⟩
  case marked =>
    rw [Member.close_of_joining hjoining, Member.countJoin, if_neg hmarked]
    by_cases henough : 2 ≤ s.member.markedCloses + 1
    · rw [if_pos henough]
      exact ⟨rfl, fun _ => ⟨rfl, rfl⟩, fun hnone => by omega⟩
    · rw [if_neg henough]
      exact ⟨rfl, fun _ => by omega, fun hnone => ⟨hjoining, congrArg (· + 1) hnone⟩⟩
  case silent =>
    rw [Member.close_of_joining hjoining, Member.countJoin, if_pos hsilent]
    by_cases henough : 3 ≤ s.member.silentCloses + 1
    · rw [if_pos henough]
      exact ⟨rfl, fun _ => ⟨rfl, rfl⟩, fun hfew => by omega⟩
    · rw [if_neg henough]
      exact ⟨rfl, fun _ => by omega, fun _ => ⟨hjoining, rfl⟩⟩
  case conflict =>
    rw [Member.close_of_conflict hconflict hk, Member.countQuiet]
    by_cases hempty : r.cells[k].state = .empty
    · rw [if_pos hempty]
      by_cases henough : 8 ≤ s.member.conflictQuiet + 1
      · rw [if_pos henough]
        exact ⟨fun _ _ => ⟨rfl, rfl⟩, fun _ _ => by omega, fun h => absurd hempty h⟩
      · rw [if_neg henough]
        exact ⟨fun _ _ => by omega, fun _ _ => ⟨hconflict, rfl⟩, fun h => absurd hempty h⟩
    · rw [if_neg hempty]
      exact ⟨fun h => absurd h hempty, fun h => absurd h hempty, fun _ => ⟨hconflict, rfl⟩⟩
  case other =>
    rw [Member.close_of_other hjoining hconflict]

/-! ### The roster (R79 to R81) -/

/-- Every close brings the roster up to date, in every state. -/
theorem Member.close_roster (m : Member) (r : Row) (k : Station) : (m.close r).roster[k] = m.roster[k].close r.cells[k] := by
  have hjoin (x : Member) (kind : MarkKind) : (x.countJoin kind).roster = x.roster := by
    unfold Member.countJoin
    split <;> split <;> rfl
  have hquiet (x : Member) (own : CellState) : (x.countQuiet own).roster = x.roster := by
    unfold Member.countQuiet
    split
    · split <;> rfl
    · rfl
  have hroster : (m.close r).roster = mapAllIdx m.roster fun k e => e.close r.cells[k] := by
    unfold Member.close
    split
    · exact hjoin _ _
    · exact hquiet _ _
    all_goals rfl
  rw [hroster, mapAllIdx_get]

theorem temperatureRecords_eq (x : Report) : temperatureRecords x =
    (x.entries.filter fun e => decide (e.kind = .temp ∨ e.kind = .fieldF)).map fun e =>
      { index := e.index, kind := e.kind, quality := e.quality, value := e.value, valueEpoch := x.epoch - 2 } := by
  have hkinds (e : ChannelEntry) : (e.kind == .temp || e.kind == .fieldF) = decide (e.kind = .temp ∨ e.kind = .fieldF) := by
    rw [Bool.eq_iff_iff, Bool.or_eq_true, beq_iff_eq, beq_iff_eq, decide_eq_true_iff]
  simp only [temperatureRecords, hkinds]

theorem RosterEntry.close_of_report {e : RosterEntry} {c : Cell} {x : Report} (h : c.state = .received) (hreport : c.report = some x) :
    e.close c = { presence := .present, missed := 0, lastEpoch := some x.epoch, lastRank := some x.rank, lastAge := some x.sourceAge
                  lastState := some x.timeState, temps := temperatureRecords x } := by
  have hin : c.reportIn = some x := by
    unfold Cell.reportIn Cell.received
    rw [h, hreport]
    rfl
  unfold RosterEntry.close
  rw [hin]

/-- A station whose report is missing, by what it was. -/
theorem RosterEntry.close_of_none {e : RosterEntry} {c : Cell} (h : c.state ≠ .received) :
    (e.presence = .unseen → e.close c = { e with missed := 0 }) ∧
    (e.presence = .present → e.close c = { e with presence := .missed, missed := 1 }) ∧
    (e.presence = .missed → e.close c =
      if 3 ≤ e.missed + 1 then { e with presence := .gone, missed := 3 } else { e with missed := e.missed + 1 }) ∧
    (e.presence = .gone → e.close c = { e with missed := 3 }) := by
  have hin : c.reportIn = none := by
    unfold Cell.reportIn Cell.received
    exact if_neg (fun hreceived => h (beq_iff_eq.mp hreceived))
  unfold RosterEntry.close
  rw [hin]
  refine ⟨?_, ?_, ?_, ?_⟩ <;> (intro hpresence; rw [hpresence])

/-- Settles O24: a report renews its station's roster entry, and a station without one is missed and then gone. -/
theorem rosterFollowsCells : Obligations.RosterFollowsCells := by
  rintro s r ⟨hrunning, hactive⟩ hrow
  refine ⟨_, exec_rowClose_running hrunning, fun k x hreceived hreport => ?received, fun k hnone => ?missed⟩
  case received =>
    rw [State.latchFrom_member, State.rowClosed_member hactive hrow, Member.close_roster, RosterEntry.close_of_report hreceived hreport,
      temperatureRecords_eq]
  case missed =>
    rw [State.latchFrom_member, State.rowClosed_member hactive hrow, Member.close_roster]
    generalize s.member.roster[k] = e
    obtain ⟨hunseen, hpresent, hmissed, hgone⟩ := RosterEntry.close_of_none (e := e) hnone
    cases hpresence : e.presence with
    | unseen =>
      rw [hunseen hpresence]
      exact ⟨rfl, fun _ => ⟨hpresence, rfl⟩, nofun, nofun, nofun, nofun⟩
    | present =>
      rw [hpresent hpresence]
      exact ⟨rfl, nofun, fun _ => ⟨rfl, rfl⟩, nofun, nofun, nofun⟩
    | missed =>
      rw [hmissed hpresence]
      by_cases hlost : 3 ≤ e.missed + 1
      · rw [if_pos hlost]
        exact ⟨rfl, nofun, nofun, fun _ hfew => by omega, fun _ _ => ⟨rfl, rfl⟩, nofun⟩
      · rw [if_neg hlost]
        exact ⟨rfl, nofun, nofun, fun _ _ => ⟨hpresence, rfl⟩, fun _ hlast => by omega, nofun⟩
    | gone =>
      rw [hgone hpresence]
      exact ⟨rfl, nofun, nofun, nofun, nofun, fun _ => ⟨hpresence, rfl⟩⟩

/-! ### The archive entry (R159 to R162) -/

/-- The stations that a mask of received reports names. -/
theorem Row.presenceMask_bit (r : Row) (j : Station) : r.presenceMask.getLsbD j.val = decide (r.cells[j].state = .received) := by
  have hmask (p : Station → Bool) (j : Station) :
      (BitVec.ofNat 8 ((stations.map fun k => if p k then 2 ^ k.val else 0).sum)).getLsbD j.val = p j := by
    simp only [stations, List.map_cons, List.map_nil]
    have hbits : ∀ a b c d e f g h : Bool, ∀ j : Station,
        (BitVec.ofNat 8 ([if a then 2 ^ 0 else 0, if b then 2 ^ 1 else 0, if c then 2 ^ 2 else 0, if d then 2 ^ 3 else 0,
          if e then 2 ^ 4 else 0, if f then 2 ^ 5 else 0, if g then 2 ^ 6 else 0, if h then 2 ^ 7 else 0].sum)).getLsbD j.val =
          [a, b, c, d, e, f, g, h][j.val] := by decide
    refine (hbits (p 0) (p 1) (p 2) (p 3) (p 4) (p 5) (p 6) (p 7) j).trans ?_
    fin_cases j <;> rfl
  exact hmask (fun k => r.cells[k].received) j

theorem Cell.entryBody_of_own {c : Cell} {x : Report} (hown : c.own = true) (hfull : c.state ≠ .empty) (hreport : c.report = some x) :
    c.entryBody = encodeReport x := by
  rw [Cell.entryBody, hown, decide_eq_true hfull, hreport]
  rfl

theorem Cell.entryBody_of_empty {c : Cell} (h : c.state = .empty) : c.entryBody = [] := by
  unfold Cell.entryBody
  rw [h]
  exact if_neg (by simp)

/-- An archive whose sequence numbers are used up raises ARCHIVE_FULL. -/
theorem State.closeBlocks_raises_full {s : State} {cut : Bool} {collected : TimeState} {r : Row} (hmember : s.member.state = .member)
    (hfull : ¬ s.retention.nextSeq < maxCount32) :
    (s.closeBlocks cut collected r).raised.getLsbD 11 = true ∧ (s.closeBlocks cut collected r).port.notices.getLsbD 11 = true := by
  unfold State.closeBlocks State.archiveClose
  dsimp only
  rw [if_pos hmember, if_neg (by simpa [State.raiseIf] using hfull)]
  simp [Condition.only, Condition.bit]

/-- Settles O25: a MEMBER's close forms the next archive entry, unless the sequence numbers are used up. -/
theorem rowCloseFormsArchiveEntry : Obligations.RowCloseFormsArchiveEntry := by
  rintro s r ⟨hrunning, hactive⟩ hrow
  have hretention := State.rowClosed_retention hactive hrow
  have harchive := State.rowClosed_archive hactive hrow
  refine ⟨_, exec_rowClose_running hrunning, ?writing, fun hother => ?other, fun k hmember hk hseq => ?formed, fun hmember hseq => ?full⟩
  case writing =>
    rw [State.latchFrom_archive, harchive, Archive.join]
    split
    · split <;> rfl
    · rfl
  case other =>
    rw [State.latchFrom_archive, State.latchFrom_retention, harchive, hretention, if_neg (fun h => hother h.1), if_neg (fun h => hother h.1)]
    exact ⟨rfl, rfl⟩
  case formed =>
    rw [State.latchFrom_archive, State.latchFrom_retention, harchive, hretention, if_pos ⟨hmember, hseq⟩, if_pos ⟨hmember, hseq⟩,
      Archive.join, hk]
    refine ⟨rfl, fun hlong => ?_, fun hshort => ?_⟩
    · rw [if_neg (Nat.not_lt.mpr hlong)]
    · rw [if_pos hshort]
      exact ⟨_, rfl, rfl, rfl, rfl, rfl, rfl, rfl, rfl, rfl, fun j => r.presenceMask_bit j,
        fun x hown hfull hreport => Cell.entryBody_of_own hown hfull hreport, fun hempty => Cell.entryBody_of_empty hempty⟩
  case full =>
    have hnot : ¬ (s.member.state = .member ∧ s.retention.nextSeq < maxCount32) := fun h => absurd h.2 (Nat.not_lt.mpr hseq)
    have hraises : s.rowClosed.raised.getLsbD 11 = true ∧ s.rowClosed.port.notices.getLsbD 11 = true := by
      rw [State.rowClosed_eq hactive hrow]
      exact State.closeBlocks_raises_full hmember (Nat.not_lt.mpr hseq)
    rw [State.latchFrom_archive, State.latchFrom_retention, harchive, hretention, if_neg hnot, if_neg hnot]
    exact ⟨rfl, rfl, State.latchFrom_keeps _ _ _ hraises.1, State.latchFrom_notices_keeps _ _ _ hraises.2⟩

end Sys2Proof.Machine
end

section
/-! SUPPORT. The cells that a station drives, its own transmission and the summary window (R46 to R51, R59 to R61, R75). -/

namespace Sys2Proof.Machine

/-! ### Cells in time (R46) -/

theorem cellAt_eq_of_between {elapsed cell : Nat} (hlow : cell * 3125 / 3 ≤ elapsed) (hhigh : elapsed < (cell + 1) * 3125 / 3) :
    cellAt elapsed = cell := by
  unfold cellAt
  omega

/-- A cell sequence before it begins. -/
theorem State.drivenAt_early {s : State} {start : Nat} (cells : List Bool) (h : s.tb.tick < start) :
    s.drivenAt (start : Int) cells = false := by
  rw [State.drivenAt, decide_eq_false (by omega), Bool.false_and]

/-- A cell sequence in progress. -/
theorem State.drivenAt_cell {s : State} {start cell : Nat} (cells : List Bool) (hlow : start + cell * 3125 / 3 ≤ s.tb.tick)
    (hhigh : s.tb.tick < start + (cell + 1) * 3125 / 3) : s.drivenAt (start : Int) cells = cells.getD cell false := by
  have helapsed : ((s.tb.tick : Int) - (start : Int)).toNat = s.tb.tick - start := by omega
  rw [State.drivenAt, decide_eq_true (by omega), Bool.true_and, helapsed, cellAt_eq_of_between (cell := cell) (by omega) (by omega)]

theorem byteCells_length (b : Byte) : (byteCells b).length = 10 := by simp [byteCells]

/-- The cells of a frame, by the byte that each belongs to. -/
theorem frameCells_getD (bytes : List Byte) (cell : Nat) : (frameCells bytes).getD cell false =
    match bytes[cell / 10]? with
    | some b => (byteCells b).getD (cell % 10) false
    | none => false := by
  induction bytes generalizing cell with
  | nil => rfl
  | cons b rest ih =>
    rw [frameCells, List.flatMap_cons]
    by_cases hcell : cell < 10
    · have hdiv : cell / 10 = 0 := by omega
      have hmod : cell % 10 = cell := by omega
      rw [hdiv, hmod, List.getElem?_cons_zero, List.getD_eq_getElem?_getD,
        List.getElem?_append_left (by rw [byteCells_length]; exact hcell), ← List.getD_eq_getElem?_getD]
    · have hdiv : cell / 10 = (cell - 10) / 10 + 1 := by omega
      have hmod : cell % 10 = (cell - 10) % 10 := by omega
      rw [hdiv, hmod, List.getElem?_cons_succ, ← ih (cell - 10), List.getD_eq_getElem?_getD,
        List.getElem?_append_right (by rw [byteCells_length]; omega), byteCells_length, ← List.getD_eq_getElem?_getD]
      rfl

theorem byteCells_getD (b : Byte) {cell : Nat} (h : cell < 10) : (byteCells b).getD cell false =
    if cell = 0 then true else if cell ≤ 8 then b.getLsbD (cell - 1) else false := by
  interval_cases cell <;> rfl

theorem summaryCells_getD (bits : SummarySet) (cell : Nat) : (summaryCells bits).getD cell false =
    (decide (cell = 0) || (decide (cell ≤ 4) && bits.getLsbD (cell - 1))) := by
  by_cases hcell : cell < 6
  · interval_cases cell <;> simp [summaryCells]
  · have hlength : (summaryCells bits).length ≤ cell := by
      simp [summaryCells]
      omega
    rw [List.getD_eq_getElem?_getD, List.getElem?_eq_none hlength, decide_eq_false (by omega), decide_eq_false (by omega)]
    rfl

/-! ### The own transmission (R47 to R51, R75) -/

theorem leaveMember_of_idle {s : State} (h : s.line.tx = none) : s.leaveMember =
    (s.setMark { s.mark with led := false, drive := .released }).setLine { s.line.releaseWindow s.tb.tick with collisions := 0 } := by
  have habort : s.abortTransmission = s := by
    unfold State.abortTransmission
    rw [h]
  unfold State.leaveMember
  rw [habort]

theorem txCellTick_eq (slot : Station) (cell : Nat) :
    txCellTick slot cell = 205000 + 1000000 * slot.val + (2 * cell + 1) * 3125 / 6 := by
  have hparts : txCellTick slot cell = 200000 + 1000000 * slot.val + 5000 + (2 * cell + 1) * 3125 / 6 := rfl
  omega

theorem countUp_of_lt {limit n : Nat} (h : n < limit) : countUp limit n = n + 1 := if_pos h

/-- Settles O29: an own transmission ends RECEIVED or COLLIDED, and the third collision in a row brings a MEMBER to CONFLICT. -/
theorem ownTransmissionEnds : Obligations.OwnTransmissionEnds := by
  rintro s x ⟨hrunning, hactive⟩ hx
  refine ⟨?complete, fun cell hcell => ?collided⟩
  case complete =>
    have hexec : exec .transmissionComplete s = .next (((s.reach (txCellTick x.slot (10 * (encodeFrame x.report).length - 1))).mapCell x.slot
        fun c => { c with state := .received }).setLine { s.line with tx := none, collisions := 0 }) := by
      dsimp only [exec, execTransmissionComplete]
      rw [atHut_active s _ hrunning hactive, hx]
    rw [txCellTick_eq] at hexec
    exact ⟨_, hexec, rfl, rfl, rfl, rfl⟩
  case collided =>
    have hexec : exec (.collided cell) s = .next
        (if 3 ≤ countUp 255 s.line.collisions ∧ s.member.state = .member then
          (((s.reach (txCellTick x.slot cell)).mapCell x.slot fun c => { c with state := .collided }).setLine
            { s.line with tx := none, collisions := countUp 255 s.line.collisions }).leaveMember.setMember
              { s.member with state := .conflict, conflictQuiet := 0 }
        else ((s.reach (txCellTick x.slot cell)).mapCell x.slot fun c => { c with state := .collided }).setLine
            { s.line with tx := none, collisions := countUp 255 s.line.collisions }) := by
      dsimp only [exec, execCollided]
      rw [atHut_active s _ hrunning hactive, hx]
      dsimp only
      rw [if_pos hcell]
    rw [txCellTick_eq] at hexec
    by_cases hthird : 3 ≤ countUp 255 s.line.collisions ∧ s.member.state = .member
    · rw [if_pos hthird, leaveMember_of_idle rfl] at hexec
      refine ⟨_, hexec, ?_⟩
      refine ⟨by simp [State.reach, Timebase.reach], by simp [State.mapCell], rfl, fun hfew hroom => ?_, fun _ _ => ⟨rfl, rfl, by simp, rfl⟩, by simp, by simp, by simp,
        by simp⟩
      rw [countUp_of_lt hroom] at hthird
      rcases hfew with hfew | hother
      · omega
      · exact absurd hthird.2 hother
    · rw [if_neg hthird] at hexec
      refine ⟨_, hexec, rfl, rfl, rfl, fun _ hroom => ⟨countUp_of_lt hroom, rfl, rfl⟩, fun hmany hmember => absurd ⟨?_, hmember⟩ hthird, by simp,
        by simp, by simp, by simp⟩
      rw [countUp_eq]
      omega

/-- The quality of a report's entry. -/
theorem qualityOf_eq (corrected : Option Corrected) : qualityOf corrected =
    match corrected with
    | none => .warming
    | some v =>
      if v.mark = .fault then .fault
      else if v.mark = .clipped then .clipped
      else if v.mark = .held then .held
      else if v.corr = .staleTemp then .staleTemp
      else if v.corr = .uncorrected then .uncorrected
      else .good := by
  cases corrected with
  | none => rfl
  | some v =>
    unfold qualityOf
    cases hmark : v.mark <;> cases hcorr : v.corr <;> simp [hmark, hcorr]

theorem Quality.hasValue_qualityOf (v : Corrected) : (qualityOf (some v)).hasValue = !decide (v.mark = .fault) := by
  unfold qualityOf
  cases hmark : v.mark <;> cases hcorr : v.corr <;> simp [hmark, hcorr, Quality.hasValue]

theorem ChannelKind.isVector_iff (k : ChannelKind) : k.isVector = true ↔ k = .fieldX ∨ k = .fieldY ∨ k = .fieldZ := by
  cases k <;> simp [ChannelKind.isVector]

theorem State.mem_channelEntries {s : State} {e : ChannelEntry} :
    e ∈ s.channelEntries ↔ ∃ i : Channel, s.setup.channels[i].kind ≠ .off ∧ s.channelEntry i = e := by
  have hall (i : Channel) : i ∈ ([0, 1, 2, 3] : List Channel) := by
    revert i
    decide
  simp only [State.channelEntries, List.mem_map, List.mem_filter, hall, true_and, decide_eq_true_eq]

/-- A channel's entry in the report (R93 to R95). -/
theorem State.channelEntry_parts (s : State) (i : Channel) : (s.channelEntry i).index = i ∧
    (s.channelEntry i).kind = s.setup.channels[i].kind ∧
    (s.channelEntry i).quality = qualityOf s.corr[i].corrected ∧
    (s.channelEntry i).value =
      (match s.corr[i].corrected with
        | none => none
        | some v => if v.mark = .fault then none else some v.value) ∧
    (s.channelEntry i).vec =
      if s.setup.channels[i].kind = .fieldX ∨ s.setup.channels[i].kind = .fieldY ∨ s.setup.channels[i].kind = .fieldZ then
        some { bias := s.front[i].bias, bin := s.corr[i].bin, gliding := s.corr[i].glide.isSome }
      else none := by
  refine ⟨rfl, rfl, rfl, ?_, if_congr (ChannelKind.isVector_iff _) rfl rfl⟩
  unfold State.channelEntry
  dsimp only
  cases s.corr[i].corrected with
  | none => rfl
  | some v =>
    rw [Quality.hasValue_qualityOf]
    by_cases hfault : v.mark = .fault <;> simp [hfault]

theorem State.channelEntries_ascending (s : State) : (s.channelEntries.map fun e => e.index.val).Pairwise (· < ·) := by
  have hordered : ([0, 1, 2, 3] : List Channel).Pairwise (· < ·) := by decide
  rw [State.channelEntries, List.map_map]
  exact (hordered.filter _).map _ fun a b h => h

theorem leadRank_eq (tb : Timebase) (hours : Nat) : leadRank tb hours =
    match tb.timeState with
    | .locked => 0
    | .following | .holdover => if tb.sourceAge < hours * 3600 then 1 else 2
    | .free | .refAcquire | .followAcquire => 2 := by
  unfold leadRank
  cases tb.timeState <;> rfl

/-- The own frame's drive, cell by cell. -/
theorem State.dataDrive_of_tx {s : State} {x : Transmission} (hx : s.line.tx = some x) (hsilent : s.line.summaryDriving = false) :
    s.dataDrive = s.drivenAt ((205000 + 1000000 * x.slot.val : Nat) : Int) (frameCells (encodeFrame x.report)) := by
  have hstart : Config.slotStart x.slot + Config.frameDelay = 205000 + 1000000 * x.slot.val := by
    have hparts : Config.slotStart x.slot + Config.frameDelay = 200000 + 1000000 * x.slot.val + 5000 := rfl
    omega
  rw [State.dataDrive, hx, hsilent, Bool.false_and, Bool.or_false, Option.any_some, hstart]

/-- Settles O26: at its slot start a MEMBER builds its report and sends it, cell by cell from 5 ms on. -/
theorem ownSlotStartSendsReport : Obligations.OwnSlotStartSendsReport := by
  refine ⟨fun s hat => ⟨fun k hmember hk => ?sends, fun hother => ?silent⟩, fun s x start cell hx hsilent hstart =>
    ⟨fun hearly => ?early, fun hlow hhigh => ?driven⟩, fun s hx hsilent => ?idle⟩
  case sends =>
    obtain ⟨hrunning, hactive⟩ := hat
    have hsends : s.sendsAs = some k := by rw [State.sendsAs, if_pos hmember, hk]
    refine ⟨s.buildReport k, ?_, rfl, rfl, rfl, rfl, rfl, rfl, rfl, rfl, leadRank_eq _ _, fun i hkind => ?_, s.channelEntries_ascending,
      fun e he => ?_⟩
    · dsimp only [exec, execOwnSlotStart]
      rw [atHut_active s _ hrunning hactive, hsends]
      rfl
    · exact ⟨s.channelEntry i, State.mem_channelEntries.mpr ⟨i, hkind, rfl⟩, rfl⟩
    · obtain ⟨i, hkind, rfl⟩ := State.mem_channelEntries.mp he
      obtain ⟨hindex, hkindEq, hquality, hvalue, hvec⟩ := s.channelEntry_parts i
      refine ⟨hkindEq, hkind, hquality.trans (qualityOf_eq _), hvalue, hvec⟩
  case silent =>
    obtain ⟨hrunning, hactive⟩ := hat
    have hsends : s.sendsAs = none := if_neg hother
    dsimp only [exec, execOwnSlotStart]
    rw [atHut_active s _ hrunning hactive, hsends]
  case early =>
    subst hstart
    rw [State.dataDrive_of_tx hx hsilent]
    exact State.drivenAt_early _ hearly
  case driven =>
    subst hstart
    have hdrive := (State.dataDrive_of_tx hx hsilent).trans (State.drivenAt_cell (frameCells (encodeFrame x.report)) hlow hhigh)
    rw [frameCells_getD] at hdrive
    refine ⟨?_, fun hlong => ?_, fun b hb => ?_⟩
    · have hparts : s.txCell x = cellAt (s.tb.tick - (200000 + 1000000 * x.slot.val + 5000)) := rfl
      rw [hparts]
      exact cellAt_eq_of_between (by omega) (by omega)
    · rw [hdrive, List.getElem?_eq_none (by omega)]
    · rw [hdrive, hb]
      exact byteCells_getD b (Nat.mod_lt _ (by decide))
  case idle => rw [State.dataDrive, hx, hsilent]; rfl

/-! ### The summary window (R59 to R61) -/

theorem DataLine.ownWindow_outside {l : DataLine} {tick : Nat} (h : tick < 8300000 ∨ l.summaryDriveEnd ≤ tick) :
    l.ownWindow tick = false := by
  unfold DataLine.ownWindow
  rcases h with h | h
  · rw [decide_eq_false (Nat.not_le.mpr h : ¬ 8300000 ≤ tick)]
    rfl
  · rw [decide_eq_false (Nat.not_lt.mpr h : ¬ tick < l.summaryDriveEnd), Bool.and_false]
    rfl

theorem DataLine.ownWindow_cell {l : DataLine} {tick cell : Nat} (hlow : 8300000 + cell * 3125 / 3 ≤ tick)
    (hhigh : tick < 8300000 + (cell + 1) * 3125 / 3) (hend : tick < l.summaryDriveEnd) :
    l.ownWindow tick = (decide (cell = 0) || (decide (cell ≤ 4) && l.summaryDriven.getLsbD (cell - 1))) := by
  have hparts : l.ownWindow tick = (decide (8300000 ≤ tick) && decide (tick < l.summaryDriveEnd) &&
      (summaryCells l.summaryDriven).getD (cellAt (tick - 8300000)) false) := rfl
  rw [hparts, decide_eq_true (by omega), decide_eq_true hend, cellAt_eq_of_between (cell := cell) (by omega) (by omega), summaryCells_getD]
  rfl

theorem State.dataDrive_of_window {s : State} (hx : s.line.tx = none) (hdriving : s.line.summaryDriving = true)
    (hend : s.tb.tick < s.line.summaryDriveEnd) : s.dataDrive = s.line.ownWindow s.tb.tick := by
  have hparts : s.line.ownWindow s.tb.tick = (decide (8300000 ≤ s.tb.tick) && decide (s.tb.tick < s.line.summaryDriveEnd) &&
      (summaryCells s.line.summaryDriven).getD (cellAt (s.tb.tick - 8300000)) false) := rfl
  have hdrive : s.dataDrive = (decide ((8300000 : Nat) ≤ (s.tb.tick : Int)) &&
      (summaryCells s.line.summaryDriven).getD (cellAt ((s.tb.tick : Int) - (8300000 : Nat)).toNat) false) := by
    rw [State.dataDrive, hx, hdriving]
    rfl
  have hbegun : decide ((8300000 : Nat) ≤ (s.tb.tick : Int)) = decide (8300000 ≤ s.tb.tick) := decide_eq_decide.mpr (by omega)
  have helapsed : ((s.tb.tick : Int) - (8300000 : Nat)).toNat = s.tb.tick - 8300000 := by omega
  rw [hparts, hdrive, hbegun, helapsed, decide_eq_true hend, Bool.and_true]

/-- The bits that a station puts into the summary window (R60). -/
theorem State.summaryBits_get (s : State) :
    s.summaryBits.getLsbD 0 = s.attendedHolds ∧
    s.summaryBits.getLsbD 1 = decide (s.port.notices &&& ~~~s.setup.noticeMask ≠ 0#16) ∧
    s.summaryBits.getLsbD 2 = (s.mark.contention || s.mark.fallback || s.mark.disagreement) ∧
    s.summaryBits.getLsbD 3 = decide (s.member.state = .joining) := by
  have hbits : ∀ a b c d : Bool, let x : SummarySet := (if a then 1#4 else 0#4) ||| (if b then 2#4 else 0#4) ||| (if c then 4#4 else 0#4) |||
      (if d then 8#4 else 0#4)
      x.getLsbD 0 = a ∧ x.getLsbD 1 = b ∧ x.getLsbD 2 = c ∧ x.getLsbD 3 = d := by decide
  have hparts : s.summaryBits = (if s.attendedHolds then 1#4 else 0#4) ||| (if s.unmaskedPending then 2#4 else 0#4) |||
      (if (s.mark.contention || s.mark.fallback || s.mark.disagreement) then 4#4 else 0#4) |||
      (if decide (s.member.state = .joining) then 8#4 else 0#4) := by
    simp only [State.summaryBits, decide_eq_true_eq]
  have hpending : s.unmaskedPending = decide (s.port.notices &&& ~~~s.setup.noticeMask ≠ 0#16) := by
    rw [State.unmaskedPending, Bool.eq_iff_iff, bne_iff_ne, decide_eq_true_iff]
  rw [hparts, ← hpending]
  exact hbits _ _ _ _

/-- What the cells of a window give (R61). -/
theorem DataLine.windowRead_get (l : DataLine) (rise : Nat) (bits : SummarySet) (stop : Bool) :
    (l.windowRead rise bits stop).getLsbD 0 = (bits.getLsbD 0 || l.ownWindow (rise + 1562)) ∧
    (l.windowRead rise bits stop).getLsbD 1 = (bits.getLsbD 1 || l.ownWindow (rise + 2604)) ∧
    (l.windowRead rise bits stop).getLsbD 2 = (bits.getLsbD 2 || l.ownWindow (rise + 3645) || stop || l.ownWindow (rise + 5729)) ∧
    (l.windowRead rise bits stop).getLsbD 3 = (bits.getLsbD 3 || l.ownWindow (rise + 4687)) := by
  have hbits : ∀ (x : SummarySet) (a b c d e f : Bool),
      let y : SummarySet := x ||| BitVec.ofNat 4 (bitsNat [a, b, c, d]) ||| (if e || f then 4#4 else 0#4)
      y.getLsbD 0 = (x.getLsbD 0 || a) ∧ y.getLsbD 1 = (x.getLsbD 1 || b) ∧ y.getLsbD 2 = (x.getLsbD 2 || c || e || f) ∧
        y.getLsbD 3 = (x.getLsbD 3 || d) := by decide
  exact hbits bits (l.ownWindow (rise + 1562)) (l.ownWindow (rise + 2604)) (l.ownWindow (rise + 3645)) (l.ownWindow (rise + 4687)) stop
    (l.ownWindow (rise + 5729))

/-- Settles O30: who drives the summary window and with which bits, and how the window is read. -/
theorem summaryWindowIsDrivenAndRead : Obligations.SummaryWindowIsDrivenAndRead := by
  refine ⟨fun s others hat => ?window, fun l tick cell => ⟨DataLine.ownWindow_outside, DataLine.ownWindow_cell⟩, fun s hx =>
    ⟨State.dataDrive_of_window hx, fun hsilent => by rw [State.dataDrive, hx, hsilent]; rfl⟩,
    fun s tick asserted hat hstored hfirst hlow hhigh => ?rise, fun s rise bits stop r hat hrise hrow => ?read,
    fun s r hat hstored hnone hrow => ?huntEnd⟩
  case window =>
    obtain ⟨hrunning, hactive⟩ := hat
    have hdrives : s.drivesWindow = true ↔ s.member.state = .member ∨ s.member.state = .joining := by
      rw [State.drivesWindow, Bool.or_eq_true, decide_eq_true_iff, decide_eq_true_iff]
    refine ⟨if s.drivesWindow then s.summaryBits else 0, s.drivesWindow, ?_, hdrives, fun h => ?_, fun h => ?_, ?_⟩
    · dsimp only [exec, execSummaryWindow]
      rw [atHut_active s _ hrunning hactive]
      refine congrArg (fun x : Option Nat => Host.Outcome.next ((s.reach 8300000).setLine { s.line with
        summaryDriven := if s.drivesWindow then s.summaryBits else 0, summaryDriving := s.drivesWindow
        summaryDriveEnd := if s.drivesWindow then 8306250 else 0, summaryRise := x })) (if_congr ?_ rfl rfl)
      simp [and_assoc]
    · rw [if_pos h]
      exact s.summaryBits_get
    · rw [h]
      rfl
    · dsimp only [exec, execSummaryWindowEnd]
      rw [atHut_active s _ hrunning hactive]
      rfl
  case rise =>
    obtain ⟨hrunning, hactive⟩ := hat
    have hearlier : s.line.summaryRise.all (fun r => decide (tick < r)) = true := by
      cases hrise : s.line.summaryRise with
      | none => rfl
      | some r => exact decide_eq_true (hfirst r hrise)
    dsimp only [exec, execSummaryWindowRise]
    rw [atHut_active s _ hrunning hactive, if_pos ⟨by rw [hstored]; decide, hearlier, hlow, hhigh⟩]
    refine congrArg _ ?_
    by_cases hasserted : (asserted || s.line.ownWindow (tick + 520)) = true
    · rw [if_pos hasserted]
      exact if_pos hasserted
    · rw [if_neg hasserted]
      exact if_neg hasserted
  case read =>
    obtain ⟨hrunning, hactive⟩ := hat
    have hexec : exec (.summaryOrRead bits stop) s = .next ((s.reach (rise + 5729)).storeSummary (s.line.windowRead rise bits stop)) := by
      dsimp only [exec, execSummaryOrRead]
      rw [atHut_active s _ hrunning hactive, hrise]
      rfl
    obtain ⟨hbit0, hbit1, hbit2, hbit3⟩ := s.line.windowRead_get rise bits stop
    exact ⟨_, _, hexec, hbit0, hbit1, hbit2, hbit3, EpochTable.mapOpen_of_open s.table _ _ hrow, rfl, rfl⟩
  case huntEnd =>
    obtain ⟨hrunning, hactive⟩ := hat
    dsimp only [exec, execSummaryHuntEnd]
    rw [atHut_active s _ hrunning hactive, if_pos ⟨by rw [hstored]; decide, hnone⟩, State.storeSummary]
    exact congrArg (fun x => Host.Outcome.next (((s.reach 8320000).setTable x).setLine
      { s.line with summaryRise := none, summaryStored := true, summaryOr := 0 })) (EpochTable.mapOpen_of_open s.table _ _ hrow)

end Sys2Proof.Machine
end

section
/-! SUPPORT. The reception of a slot, cell by cell (R46, R47, R53 to R56). -/

namespace Sys2Proof.Machine

/-! ### One cell and one byte read (R46, R54) -/

section

variable {x : Reception} (b : Byte)

theorem Reception.readCell_start (level : Bool) (h : x.cells = []) : x.readCell level =
    if level then .more { x with cells := [true] } else .fault { x with cells := [false] } .framing := by
  unfold Reception.readCell
  rw [h]
  cases level <;> rfl

theorem Reception.readCell_data (level : Bool) (hbegun : 1 ≤ x.cells.length) (hdata : x.cells.length ≤ 8) :
    x.readCell level = .more { x with cells := x.cells ++ [level] } := by
  unfold Reception.readCell
  cases hcells : x.cells with
  | nil => exact absurd (hcells ▸ hbegun) (by decide)
  | cons first data =>
    have hshort : data.length < 8 := by
      rw [hcells, List.length_cons] at hdata
      omega
    exact if_pos hshort

theorem Reception.readCell_stop (level : Bool) (h : x.cells.length = 9) : x.readCell level =
    if level then .fault { x with cells := x.cells ++ [true] } .framing else x.readByte (byteOfCells x.cells.tail) := by
  unfold Reception.readCell
  cases hcells : x.cells with
  | nil => exact absurd (hcells ▸ h) (by decide)
  | cons first data =>
    have hlong : ¬ data.length < 8 := by
      rw [hcells, List.length_cons] at h
      omega
    dsimp only
    rw [if_neg hlong, List.tail_cons]
    cases level <;> rfl

theorem Reception.readByte_lead (h : x.bytes = []) : x.readByte b =
    if b = 0xD5#8 then .more { x with bytes := x.bytes ++ [b], cells := [] }
    else .fault { x with bytes := x.bytes ++ [b], cells := [] } .framing := by
  unfold Reception.readByte
  rw [h]

theorem Reception.readByte_length (h : x.bytes.length = 1) : x.readByte b =
    if b.toNat < 15 ∨ 48 < b.toNat then .fault { x with bytes := x.bytes ++ [b], cells := [] } .length
    else .more { x with bytes := x.bytes ++ [b], cells := [], expected := some ((b.toNat + 4) * 10) } := by
  unfold Reception.readByte
  obtain ⟨lead, hlead⟩ := List.length_eq_one_iff.mp h
  rw [hlead]

theorem Reception.readCells_cons (level : Bool) (rest : List Bool) : x.readCells (level :: rest) =
    match x.readCell level with
    | .more y => y.readCells rest
    | .fault y kind => .fault y kind
    | .whole y => .whole y := rfl

theorem Reception.readCells_one {level : Bool} {y : Reception} (h : x.readCell level = .more y) : x.readCells [level] = .more y := by
  rw [Reception.readCells_cons, h]
  rfl

theorem Reception.readCells_fault {level : Bool} (rest : List Bool) {y : Reception} {kind : DamageKind}
    (h : x.readCell level = .fault y kind) : x.readCells (level :: rest) = .fault y kind := by
  rw [Reception.readCells_cons, h]

end

/-! ### What the cells read make of the station (R55) -/

section

variable {s : State} {x y : Reception} {levels : List Bool} (hx : s.line.rx = some x) (hreceiving : x.state = .receiving)
include hx hreceiving

theorem State.readFrame_more (h : x.readCells levels = .more y) :
    s.readFrame levels = (s.atCell y).setLine { s.line with rx := some y } := by
  unfold State.readFrame
  rw [hx]
  dsimp only
  rw [if_pos hreceiving, h]

theorem State.readFrame_fault {kind : DamageKind} (h : x.readCells levels = .fault y kind) :
    s.readFrame levels = (s.atCell y).endReception y (Cell.damagedBy kind) := by
  unfold State.readFrame
  rw [hx]
  dsimp only
  rw [if_pos hreceiving, h]

theorem State.readFrame_whole (h : x.readCells levels = .whole y) :
    s.readFrame levels = (s.atCell y).endReception y y.judged.cell := by
  unfold State.readFrame
  rw [hx]
  dsimp only
  rw [if_pos hreceiving, h]

end

theorem exec_framingFault_eq {s : State} (cells : List Bool) (hat : s.AtHut) : exec (.framingFault cells) s = .next (s.readFrame cells) := by
  dsimp only [exec, execFramingFault]
  exact atHut_active s _ hat.1 hat.2

theorem exec_frameReceived_eq {s : State} (cells : List Bool) (hat : s.AtHut) : exec (.frameReceived cells) s = .next (s.readFrame cells) := by
  dsimp only [exec, execFrameReceived]
  exact atHut_active s _ hat.1 hat.2

theorem State.atCell_eq (s : State) (y : Reception) {cell : Nat} (h : y.cellsRead - 1 = cell) :
    s.atCell y = s.setTb { s.tb with tick := max s.tb.tick (y.rise + (2 * cell + 1) * 3125 / 6) } := by
  subst h
  rfl

/-- A reading goes on only where one was in progress. -/
theorem State.readFrame_goes_on {s : State} {levels : List Bool} {y : Reception} (hy : (s.readFrame levels).line.rx = some y)
    (hreceiving : y.state = .receiving) : ∃ x, s.line.rx = some x ∧ x.state = .receiving ∧ x.readCells levels = .more y := by
  cases hx : s.line.rx with
  | none =>
    have hsame : s.readFrame levels = s := by
      unfold State.readFrame
      rw [hx]
    rw [hsame, hx] at hy
    exact absurd hy (by simp)
  | some x =>
    by_cases hr : x.state = .receiving
    · refine ⟨x, rfl, hr, ?_⟩
      cases hread : x.readCells levels with
      | more z =>
        rw [State.readFrame_more hx hr hread] at hy
        exact congrArg _ (Option.some.inj hy)
      | fault z kind =>
        rw [State.readFrame_fault hx hr hread] at hy
        obtain rfl := Option.some.inj hy
        exact absurd hreceiving (by simp)
      | whole z =>
        rw [State.readFrame_whole hx hr hread] at hy
        obtain rfl := Option.some.inj hy
        exact absurd hreceiving (by simp)
    · have hsame : s.readFrame levels = s := by
        unfold State.readFrame
        rw [hx]
        exact if_neg hr
      rw [hsame, hx] at hy
      obtain rfl := Option.some.inj hy
      exact absurd hreceiving hr

/-- Cells read in two parts leave the station as they do when read as one. -/
theorem State.readFrame_append {s : State} {x y : Reception} {a : List Bool} (b : List Bool) (hx : s.line.rx = some x)
    (hreceiving : x.state = .receiving) (hcells : x.cells.length ≤ 9) (hread : x.readCells a = .more y) :
    s.readFrame (a ++ b) = ((s.atCell y).setLine { s.line with rx := some y }).readFrame b := by
  obtain ⟨-, -, hrise, hstate, hshort⟩ := x.readCells_grows a hcells
  have hyshort := hshort y hread
  rw [hread] at hstate
  have hyreceiving : y.state = .receiving := hstate.trans hreceiving
  obtain ⟨hcount, -, hzrise, -, -⟩ := y.readCells_grows b hyshort
  have hat (z : Reception) (hz : y.cellsRead ≤ z.cellsRead) (hr : z.rise = y.rise) :
      ((s.atCell y).setLine { s.line with rx := some y }).atCell z = (s.atCell z).setLine { s.line with rx := some y } := by
    have htick : max (max s.tb.tick (y.rise + cellCentre (y.cellsRead - 1))) (z.rise + cellCentre (z.cellsRead - 1)) =
        max s.tb.tick (z.rise + cellCentre (z.cellsRead - 1)) := by
      have hcentre : cellCentre (y.cellsRead - 1) ≤ cellCentre (z.cellsRead - 1) := by
        unfold cellCentre
        omega
      omega
    exact congrArg (fun tick => (s.setTb { s.tb with tick := tick }).setLine { s.line with rx := some y }) htick
  have happend : x.readCells (a ++ b) = y.readCells b := by rw [Reception.readCells_append, hread]
  cases hz : y.readCells b with
  | more z =>
    rw [hz] at hcount hzrise
    rw [State.readFrame_more hx hreceiving (happend.trans hz), State.readFrame_more rfl hyreceiving hz, hat z hcount hzrise]
    rfl
  | fault z kind =>
    rw [hz] at hcount hzrise
    rw [State.readFrame_fault hx hreceiving (happend.trans hz), State.readFrame_fault rfl hyreceiving hz, hat z hcount hzrise]
    rfl
  | whole z =>
    rw [hz] at hcount hzrise
    rw [State.readFrame_whole hx hreceiving (happend.trans hz), State.readFrame_whole rfl hyreceiving hz, hat z hcount hzrise]
    rfl

/-- SLOT_END of a slot in reception, and of any other slot. -/
theorem exec_slotEnd_eq {s : State} {x : Reception} (hat : s.AtHut) (hx : s.line.rx = some x) : exec .slotEnd s =
    .next (match x.state with
      | .receiving => (s.reach (1100000 + 1000000 * x.slot.val)).endReception x (Cell.damagedBy .unfinished)
      | .hunting | .done => (s.reach (1100000 + 1000000 * x.slot.val)).setLine { s.line with rx := some { x with state := .done } }) := by
  have hend : Config.slotStart x.slot + Config.slotLength = 1100000 + 1000000 * x.slot.val := by
    have hparts : Config.slotStart x.slot + Config.slotLength = 200000 + 1000000 * x.slot.val + 900000 := rfl
    omega
  dsimp only [exec, execSlotEnd]
  rw [atHut_active s _ hat.1 hat.2, hx]
  dsimp only
  rw [hend]
  cases hstate : x.state with
  | receiving => rfl
  | hunting => rfl
  | done =>
    have hsame : s.line = { s.line with rx := some { x with state := .done } } := by
      rw [← hstate, ← hx]
    exact congrArg (fun l => Host.Outcome.next ((s.reach (1100000 + 1000000 * x.slot.val)).setLine l)) hsame

/-- Settles O27: the reception of a slot opens, hunts, reads its frame cell by cell in any cuts, and ends. -/
theorem slotReceptionMoves : Obligations.SlotReceptionMoves := by
  refine ⟨fun s k hat hother => ?opens, fun s k hat hmember hk => ?own, fun s x tick hat hx hhunting hlow hhigh => ?rises,
    fun s x hat hx hhunting => ?timeout, fun s x level rest b hat hx hreceiving => ?reads, fun s t y a b hat hsound _ hexec hy hreceiving => ?append,
    fun s x hat hx hreceiving => ?unfinished, fun s x hat hx hquiet => ?ended, fun s t k hat hmember hk hexec => ?ownEnds⟩
  case opens =>
    have hsends : s.sendsAs ≠ some k := by
      unfold State.sendsAs
      by_cases hmember : s.member.state = .member
      · rw [if_pos hmember]
        exact fun hk => hother ⟨hmember, hk⟩
      · rw [if_neg hmember]
        simp
    dsimp only [exec, execSlotStart]
    rw [atHut_active s _ hat.1 hat.2, decide_eq_true hsends]
    rfl
  case own =>
    have hsends : s.sendsAs = some k := by rw [State.sendsAs, if_pos hmember, hk]
    dsimp only [exec, execSlotStart]
    rw [atHut_active s _ hat.1 hat.2, decide_eq_false (not_not.mpr hsends)]
    rfl
  case rises =>
    have hcond : x.state = RxState.hunting ∧ Config.slotStart x.slot ≤ tick ∧ tick < Config.slotStart x.slot + Config.huntLength := by
      have hparts : Config.slotStart x.slot + Config.huntLength = 200000 + 1000000 * x.slot.val + 50000 := rfl
      exact ⟨hhunting, hlow, by omega⟩
    have hexec (asserted : Bool) : exec (.frameFirstRise tick asserted) s =
        .next (if asserted = true then (s.reach (tick + 520)).setLine
            { s.line with rx := some { x with state := .receiving, rise := tick, cells := [true] } }
          else s.reach (tick + 520)) := by
      dsimp only [exec, execFrameFirstRise]
      rw [atHut_active s _ hat.1 hat.2, hx]
      exact congrArg _ (if_pos hcond)
    exact ⟨hexec true, hexec false⟩
  case timeout =>
    have hend : Config.slotStart x.slot + Config.huntLength = 250000 + 1000000 * x.slot.val := by
      have hparts : Config.slotStart x.slot + Config.huntLength = 200000 + 1000000 * x.slot.val + 50000 := rfl
      omega
    dsimp only [exec, execHuntTimeout]
    rw [atHut_active s _ hat.1 hat.2, hx]
    dsimp only
    rw [if_pos hhunting, hend]
    rfl
  case reads =>
    intro reached damaged byteRead
    have hfault {y : Reception} {kind : DamageKind} {first : Bool} (h : x.readCell first = .fault y kind) (hslot : y.slot = x.slot)
        (hrise : y.rise = x.rise) : exec (.framingFault (first :: rest)) s = .next (damaged y kind) := by
      rw [exec_framingFault_eq _ hat, State.readFrame_fault hx hreceiving (Reception.readCells_fault rest h), State.endReception,
        State.atCell_eq s y rfl]
      dsimp only [damaged, reached]
      rw [← hslot, ← hrise]
      rfl
    have hmore {y : Reception} {cell : Bool} {n : Nat} (h : x.readCell cell = .more y) (hrise : y.rise = x.rise) (hn : y.cellsRead - 1 = n) :
        exec (.frameReceived [cell]) s = .next ((reached n).setLine { s.line with rx := some y }) := by
      rw [exec_frameReceived_eq _ hat, State.readFrame_more hx hreceiving (Reception.readCells_one h), State.atCell_eq s y hn, hrise]
    refine ⟨fun hstart => ?_, fun hstop => ?_, fun hstop hb hlead hwrong => ?_, fun hstop hb hlength hwrong => ?_, fun hstart => ?_,
      fun hbegun hdata => ?_, fun hstop hb hlength hlow hhigh => ?_⟩
    · exact hfault (Reception.readCell_start false hstart) rfl rfl
    · exact hfault (Reception.readCell_stop true hstop) rfl rfl
    · refine hfault ((Reception.readCell_stop false hstop).trans ?_) rfl rfl
      rw [← hb, if_neg Bool.false_ne_true, Reception.readByte_lead b hlead, if_neg hwrong]
    · refine hfault ((Reception.readCell_stop false hstop).trans ?_) rfl rfl
      rw [← hb, if_neg Bool.false_ne_true, Reception.readByte_length b hlength, if_pos hwrong]
    · exact hmore (Reception.readCell_start true hstart) rfl rfl
    · refine hmore (Reception.readCell_data level hbegun hdata) rfl ?_
      rw [Reception.cellsRead, List.length_append, List.length_singleton]
      rfl
    · refine hmore ((Reception.readCell_stop false hstop).trans ?_) rfl ?_
      · rw [← hb, if_neg Bool.false_ne_true, Reception.readByte_length b hlength, if_neg (by omega)]
      · rw [Reception.cellsRead, List.length_append, List.length_singleton, List.length_nil]
        omega
  case append =>
    rw [exec_frameReceived_eq _ hat] at hexec
    obtain rfl := Host.Outcome.next.inj hexec
    obtain ⟨x, hx, hxreceiving, hread⟩ := State.readFrame_goes_on hy hreceiving
    have hnext := State.readFrame_more hx hxreceiving hread
    have hat' : (s.readFrame a).AtHut := by
      rw [hnext]
      exact hat
    rw [exec_frameReceived_eq _ hat, exec_frameReceived_eq _ hat', hnext,
      State.readFrame_append b hx hxreceiving (hsound.cells x hx) hread]
  case unfinished =>
    rw [exec_slotEnd_eq hat hx, hreceiving]
    rfl
  case ended =>
    rw [exec_slotEnd_eq hat hx]
    cases hstate : x.state with
    | receiving => exact absurd hstate hquiet
    | hunting => rfl
    | done => rfl
  case ownEnds =>
    have hsends : s.sendsAs = some k := by rw [State.sendsAs, if_pos hmember, hk]
    have hstart : exec .ownSlotStart s = .next ((((s.reach (200000 + 1000000 * k.val)).mapCell k fun _ =>
        { state := .empty, damage := none, report := some (s.buildReport k), own := true }).setLine
          { s.line with tx := some { report := s.buildReport k, slot := k }, rx := some (Reception.opened k false) }).setRaised 0) := by
      dsimp only [exec, execOwnSlotStart]
      rw [atHut_active s _ hat.1 hat.2, hsends]
    obtain rfl := Host.Outcome.next.inj (hexec.symm.trans hstart)
    refine ⟨_, exec_slotEnd_eq (x := Reception.opened k false) hat rfl, ?_⟩
    have hticks : max (max s.tb.tick (200000 + 1000000 * k.val)) (1100000 + 1000000 * k.val) =
        max s.tb.tick (1100000 + 1000000 * k.val) := by omega
    exact hticks

end Sys2Proof.Machine
end

section
/-! SUPPORT. The judgement of a whole frame and the format of a report (R54, R55, section 12.3). -/

namespace Sys2Proof.Machine

/-! ### A whole frame (R54, R55) -/

theorem Reception.readCells_byte {x : Reception} (b : Byte) (rest : List Byte) (h : x.cells = []) :
    x.readCells (frameCells (b :: rest)) =
      match x.readByte b with
      | .more y => y.readCells (frameCells rest)
      | .fault y kind => .fault y kind
      | .whole y => .whole y := by
  rw [frameCells, List.flatMap_cons, Reception.readCells_append, Reception.readCells_byteCells x h]
  cases x.readByte b <;> rfl

/-- A frame of a length in range is read whole, whatever its bytes are. -/
theorem Reception.readCells_frame {x : Reception} {len : Byte} {rest : List Byte} {levels : List Bool} (hbytes : x.bytes = [])
    (hcells : x.cells = [true]) (hlow : 15 ≤ len.toNat) (hhigh : len.toNat ≤ 48) (hrest : rest.length = len.toNat + 2)
    (hlevels : true :: levels = frameCells (0xD5#8 :: len :: rest)) :
    x.readCells levels = .whole { x with
      bytes := 0xD5#8 :: len :: rest, cells := [], expected := some ((len.toNat + 4) * 10) } := by
  have hstart : ({ x with cells := [] } : Reception).readCells (true :: levels) = x.readCells levels := by
    rw [Reception.readCells_cons, Reception.readCell_start true rfl, ← hcells]
    rfl
  have hlead : ({ x with cells := [] } : Reception).readByte 0xD5#8 = .more { x with bytes := [0xD5#8], cells := [] } := by
    rw [Reception.readByte_lead (x := { x with cells := [] }) _ hbytes, if_pos rfl, hbytes]
    rfl
  have hlength : ({ x with bytes := [0xD5#8], cells := [] } : Reception).readByte len =
      .more { x with bytes := [0xD5#8, len], cells := [], expected := some ((len.toNat + 4) * 10) } := by
    rw [Reception.readByte_length (x := { x with bytes := [0xD5#8], cells := [] }) _ rfl, if_neg (by omega)]
    rfl
  rw [← hstart, hlevels, Reception.readCells_byte _ _ rfl, hlead]
  dsimp only
  rw [Reception.readCells_byte _ _ rfl, hlength]
  dsimp only
  exact Reception.readCells_rest { x with bytes := [0xD5#8, len], cells := [], expected := some ((len.toNat + 4) * 10) } rest (len.toNat + 4)
    (Nat.le_refl 2) rfl (congrArg some (Nat.mul_comm _ _)) (by rw [hrest]; exact Nat.add_comm 2 _) (by rintro rfl; simp at hrest)

/-- The parts of a frame by which it is judged. -/
theorem judgeWhole_eq {slot : Station} {len : Byte} {body check : List Byte} (hbody : body.length = len.toNat) (hcheck : check.length = 2) :
    judgeWhole slot len (body ++ check) =
      if leNat check ≠ (checkWord (len :: body)).toNat then .damaged .check
      else if (body.getD 0 0).toNat ≠ slot.val + 1 then .damaged .slot
      else
        match decodeReport body with
        | none => .damaged .format
        | some r => .received r := by
  have htake : (body ++ check).take len.toNat = body := List.take_left' hbody
  have hdrop : ((body ++ check).drop len.toNat).take 2 = check := by
    rw [List.drop_left' hbody, ← hcheck, List.take_length]
  unfold judgeWhole
  dsimp only
  rw [htake, hdrop]
  rfl

/-! ### The format of a report (R55) -/

/-- The channel entries that R55 takes: a kind and a quality that are defined, and the bytes that they call for. -/
def EntryFormed (e : Byte × List Byte) : Prop :=
  e.1.toNat / 4 % 8 ≤ 4 ∧ e.1.toNat / 32 ≤ 6 ∧
    e.2.length = (if e.1.toNat / 32 = 5 ∨ e.1.toNat / 32 = 6 then 0 else 4) + (if e.1.toNat / 4 % 8 ≤ 2 then 2 else 0)

theorem ChannelKind.ofCode_iff : ∀ n, n < 8 → ((∃ k, ChannelKind.ofCode n = some k ∧ k ≠ .off) ↔ n ≤ 4) ∧
    ∀ k, ChannelKind.ofCode n = some k → (k.isVector = true ↔ n ≤ 2) := by
  intro n hn
  interval_cases n <;> simp [ChannelKind.ofCode, ChannelKind.isVector]

theorem Quality.ofCode_iff : ∀ n, n < 8 → ((∃ q, Quality.ofCode n = some q) ↔ n ≤ 6) ∧
    ∀ q, Quality.ofCode n = some q → (q.hasValue = true ↔ ¬(n = 5 ∨ n = 6)) := by
  intro n hn
  interval_cases n <;> simp [Quality.ofCode, Quality.hasValue]

/-- The bytes of an entry's value and of its vector fields. -/
def payloadLength (kind : ChannelKind) (quality : Quality) : Nat := (if quality.hasValue then 4 else 0) + (if kind.isVector then 2 else 0)

/-- The entry that a descriptor and the bytes after it give, when they are enough. -/
def readEntry (d : Byte) (kind : ChannelKind) (quality : Quality) (tail : List Byte) : ChannelEntry :=
  { index := ⟨d.toNat % 4, Nat.mod_lt _ (by decide)⟩, kind := kind, quality := quality
    value := if quality.hasValue then some (signedOf 4 (leNat (tail.take 4))) else none
    vec := if kind.isVector then
        some { bias := signedOf 1 ((tail.drop (if quality.hasValue then 4 else 0)).getD 0 0).toNat
               bin := ((tail.drop (if quality.hasValue then 4 else 0)).getD 1 0).toNat % 16
               gliding := ((tail.drop (if quality.hasValue then 4 else 0)).getD 1 0).toNat / 16 % 2 == 1 }
      else none }

theorem decodeEntry_of_no_kind {d : Byte} (tail : List Byte) (h : ChannelKind.ofCode (d.toNat / 4 % 8) = none) :
    decodeEntry (d :: tail) = none := by
  unfold decodeEntry
  dsimp only
  rw [h]

theorem decodeEntry_of_no_quality {d : Byte} (tail : List Byte) (h : Quality.ofCode (d.toNat / 32) = none) :
    decodeEntry (d :: tail) = none := by
  unfold decodeEntry
  dsimp only
  rw [h]
  cases ChannelKind.ofCode (d.toNat / 4 % 8) <;> rfl

theorem decodeEntry_of_codes {d : Byte} {tail : List Byte} {kind : ChannelKind} {quality : Quality}
    (hkind : ChannelKind.ofCode (d.toNat / 4 % 8) = some kind) (hquality : Quality.ofCode (d.toNat / 32) = some quality) :
    decodeEntry (d :: tail) =
      if kind = .off then none
      else if tail.length < payloadLength kind quality then none
      else some (readEntry d kind quality tail, tail.drop (payloadLength kind quality)) := by
  unfold decodeEntry
  dsimp only
  rw [hkind, hquality]
  rfl

/-- An entry is read exactly where one stands, and leaves the bytes after it. -/
theorem decodeEntry_iff (bytes rest : List Byte) (index : Nat) :
    (∃ e, decodeEntry bytes = some (e, rest) ∧ e.index.val = index) ↔
      ∃ d payload, bytes = d :: (payload ++ rest) ∧ EntryFormed (d, payload) ∧ d.toNat % 4 = index := by
  cases bytes with
  | nil => simp [decodeEntry]
  | cons d tail =>
    have hd : d.toNat < 256 := d.isLt
    obtain ⟨hkinds, hvector⟩ := ChannelKind.ofCode_iff (d.toNat / 4 % 8) (by omega)
    obtain ⟨hqualities, hvalue⟩ := Quality.ofCode_iff (d.toNat / 32) (by omega)
    have hparts : (∃ d' payload, d :: tail = d' :: (payload ++ rest) ∧ EntryFormed (d', payload) ∧ d'.toNat % 4 = index) ↔
        ∃ payload, tail = payload ++ rest ∧ EntryFormed (d, payload) ∧ d.toNat % 4 = index := by
      constructor
      · rintro ⟨d', payload, heq, hformed, hindex⟩
        obtain ⟨rfl, htail⟩ := List.cons.inj heq
        exact ⟨payload, htail, hformed, hindex⟩
      · rintro ⟨payload, rfl, hformed, hindex⟩
        exact ⟨d, payload, rfl, hformed, hindex⟩
    rw [hparts]
    cases hkind : ChannelKind.ofCode (d.toNat / 4 % 8) with
    | none =>
      have hnot : ¬ d.toNat / 4 % 8 ≤ 4 := by
        rw [← hkinds, hkind]
        simp
      rw [decodeEntry_of_no_kind tail hkind]
      simp [EntryFormed, hnot]
    | some kind =>
      cases hquality : Quality.ofCode (d.toNat / 32) with
      | none =>
        have hnot : ¬ d.toNat / 32 ≤ 6 := by
          rw [← hqualities, hquality]
          simp
        rw [decodeEntry_of_no_quality tail hquality]
        simp [EntryFormed, hnot]
      | some quality =>
        rw [decodeEntry_of_codes hkind hquality]
        by_cases hoff : kind = .off
        · have hnot : ¬ d.toNat / 4 % 8 ≤ 4 := by
            rw [← hkinds, hkind]
            simp [hoff]
          rw [if_pos hoff]
          simp [EntryFormed, hnot]
        · have hk : d.toNat / 4 % 8 ≤ 4 := hkinds.mp ⟨kind, hkind, hoff⟩
          have hq : d.toNat / 32 ≤ 6 := hqualities.mp ⟨quality, hquality⟩
          have hlen : payloadLength kind quality =
              (if d.toNat / 32 = 5 ∨ d.toNat / 32 = 6 then 0 else 4) + (if d.toNat / 4 % 8 ≤ 2 then 2 else 0) := by
            have hv := hvalue quality hquality
            have hx := hvector kind hkind
            unfold payloadLength
            congr 1
            · by_cases h : quality.hasValue = true
              · rw [if_pos h, if_neg (hv.mp h)]
              · rw [if_neg h, if_pos (by tauto)]
            · exact if_congr hx rfl rfl
          rw [if_neg hoff]
          have hformed (payload : List Byte) : EntryFormed (d, payload) ↔ payload.length = payloadLength kind quality := by
            rw [hlen]
            exact ⟨fun ⟨_, _, hlength⟩ => hlength, fun hlength => ⟨hk, hq, hlength⟩⟩
          simp only [hformed]
          by_cases hshort : tail.length < payloadLength kind quality
          · rw [if_pos hshort]
            constructor
            · rintro ⟨e, he, -⟩
              exact absurd he (by simp)
            · rintro ⟨payload, rfl, hpayload, -⟩
              rw [List.length_append] at hshort
              omega
          · rw [if_neg hshort]
            constructor
            · rintro ⟨e, he, hindex⟩
              obtain ⟨rfl, rfl⟩ := Prod.mk.inj (Option.some.inj he)
              exact ⟨tail.take (payloadLength kind quality), (List.take_append_drop _ tail).symm,
                by rw [List.length_take]; omega, hindex⟩
            · rintro ⟨payload, rfl, hpayload, hindex⟩
              exact ⟨_, by rw [List.drop_left' hpayload], hindex⟩

/-- Entries are read where they stand one after another in ascending channel index. -/
theorem decodeEntries_iff (n least : Nat) (bytes rest : List Byte) :
    (∃ es, decodeEntries n least bytes = some (es, rest)) ↔
      ∃ entries : List (Byte × List Byte), bytes = entries.flatMap (fun e => e.1 :: e.2) ++ rest ∧ entries.length = n ∧
        (∀ e ∈ entries, EntryFormed e) ∧ (∀ e ∈ entries, least ≤ e.1.toNat % 4) ∧
        (entries.map fun e => e.1.toNat % 4).Pairwise (· < ·) := by
  induction n generalizing least bytes with
  | zero =>
    constructor
    · rintro ⟨es, hes⟩
      obtain ⟨-, rfl⟩ := Prod.mk.inj (Option.some.inj hes)
      exact ⟨[], rfl, rfl, nofun, nofun, .nil⟩
    · rintro ⟨entries, rfl, hlength, -⟩
      obtain rfl := List.length_eq_zero_iff.mp hlength
      exact ⟨[], rfl⟩
  | succ n ih =>
    constructor
    · rintro ⟨es, hes⟩
      unfold decodeEntries at hes
      cases hfirst : decodeEntry bytes with
      | none => exact absurd (hfirst ▸ hes) (by simp)
      | some p =>
        obtain ⟨e, tail⟩ := p
        rw [hfirst] at hes
        dsimp only at hes
        by_cases hleast : e.index.val < least
        · exact absurd ((if_pos hleast).symm.trans hes) (by simp)
        · rw [if_neg hleast] at hes
          cases hrest : decodeEntries n (e.index.val + 1) tail with
          | none => exact absurd (hrest ▸ hes) (by simp)
          | some q =>
            obtain ⟨es', rest'⟩ := q
            rw [hrest] at hes
            obtain ⟨-, rfl⟩ := Prod.mk.inj (Option.some.inj hes)
            obtain ⟨d, payload, rfl, hformed, hindex⟩ := (decodeEntry_iff bytes tail e.index.val).mp ⟨e, hfirst, rfl⟩
            obtain ⟨entries, rfl, hlength, hall, habove, hordered⟩ := (ih (e.index.val + 1) tail).mp ⟨es', hrest⟩
            refine ⟨(d, payload) :: entries, by simp, by simp [hlength], ?_, ?_, ?_⟩
            · exact List.forall_mem_cons.mpr ⟨hformed, hall⟩
            · exact List.forall_mem_cons.mpr ⟨by dsimp only; omega, fun e' he' => (Nat.le_of_lt (Nat.lt_of_lt_of_le (Nat.not_lt.mp hleast |>.trans_lt
                (Nat.lt_succ_self _)) (habove e' he')))⟩
            · rw [List.map_cons, List.pairwise_cons]
              refine ⟨fun i hi => ?_, hordered⟩
              obtain ⟨e', he', rfl⟩ := List.mem_map.mp hi
              have := habove e' he'
              dsimp only
              omega
    · rintro ⟨entries, rfl, hlength, hall, habove, hordered⟩
      obtain ⟨⟨d, payload⟩, entries, rfl⟩ := List.exists_cons_of_length_eq_add_one hlength
      obtain ⟨hformed, hall⟩ := List.forall_mem_cons.mp hall
      obtain ⟨hleast, -⟩ := List.forall_mem_cons.mp habove
      rw [List.map_cons, List.pairwise_cons] at hordered
      obtain ⟨e, hfirst, hindex⟩ := (decodeEntry_iff (d :: (payload ++ (entries.flatMap (fun e => e.1 :: e.2) ++ rest)))
        (entries.flatMap (fun e => e.1 :: e.2) ++ rest) (d.toNat % 4)).mpr ⟨d, payload, rfl, hformed, rfl⟩
      obtain ⟨es, hes⟩ := (ih (e.index.val + 1) (entries.flatMap (fun e => e.1 :: e.2) ++ rest)).mpr ⟨entries, rfl, by simpa using hlength, hall,
        fun e' he' => by
          have := hordered.1 _ (List.mem_map_of_mem he')
          dsimp only at this
          omega, hordered.2⟩
      refine ⟨e :: es, ?_⟩
      have hbytes : ((d, payload) :: entries).flatMap (fun e => e.1 :: e.2) ++ rest =
          d :: (payload ++ (entries.flatMap (fun e => e.1 :: e.2) ++ rest)) := by simp
      rw [hbytes, decodeEntries, hfirst]
      dsimp only
      rw [if_neg (by dsimp only at hleast; omega), hes]

theorem decodeDelta_iff (present : Bool) (bytes : List Byte) :
    (∃ d, decodeDelta present bytes = some d) ↔ bytes.length = if present = true then 5 else 0 := by
  unfold decodeDelta
  cases present with
  | true =>
    by_cases h : bytes.length = 5
    · simp [h]
    · simp [h]
  | false =>
    cases bytes with
    | nil => simp
    | cons b rest => simp

theorem TimeState.ofCode_iff (n : Nat) : (∃ ts, TimeState.ofCode n = some ts) ↔ n ≤ 5 := by
  by_cases h : n ≤ 5
  · interval_cases n <;> simp [TimeState.ofCode]
  · have hnone : TimeState.ofCode n = none := by
      unfold TimeState.ofCode
      split <;> [omega; omega; omega; omega; omega; omega; rfl]
    simp [hnone, h]

/-- What a report's header must hold, and the bytes after it. -/
theorem decodeReport_iff (body : List Byte) : decodeReport body ≠ none ↔
    15 ≤ body.length ∧ (body.getD 1 0).toNat / 16 = 1 ∧ (body.getD 6 0).toNat % 8 ≤ 5 ∧ (body.getD 6 0).toNat / 8 % 4 ≤ 2 ∧
      (body.getD 1 0).toNat % 16 ≤ 4 ∧
      ∃ es rest d, decodeEntries ((body.getD 1 0).toNat % 16) 0 (body.drop 15) = some (es, rest) ∧
        decodeDelta ((body.getD 6 0).toNat / 64 % 2 == 1) rest = some d := by
  unfold decodeReport
  by_cases hshort : body.length < 15
  · rw [if_pos hshort]
    exact ⟨fun h => absurd rfl h, fun ⟨h, _⟩ => absurd hshort (Nat.not_lt.mpr h)⟩
  · rw [if_neg hshort]
    dsimp only
    by_cases hheader : (body.getD 1 0).toNat / 16 ≠ 1 ∨ 4 < (body.getD 1 0).toNat % 16 ∨ 2 < (body.getD 6 0).toNat / 8 % 4
    · rw [if_pos hheader]
      refine ⟨fun h => absurd rfl h, fun ⟨_, hversion, _, hrank, hcount, _⟩ => ?_⟩
      rcases hheader with h | h | h
      · exact absurd hversion h
      · omega
      · omega
    · rw [if_neg hheader]
      have hversion : (body.getD 1 0).toNat / 16 = 1 := by
        by_contra h
        exact hheader (.inl h)
      cases hstate : TimeState.ofCode ((body.getD 6 0).toNat % 8) with
      | none =>
        refine ⟨fun h => absurd rfl h, fun ⟨_, _, hcode, _⟩ => ?_⟩
        obtain ⟨ts, hts⟩ := (TimeState.ofCode_iff _).mpr hcode
        exact absurd (hstate.symm.trans hts) (by simp)
      | some ts =>
        have hcode := (TimeState.ofCode_iff _).mp ⟨ts, hstate⟩
        cases hentries : decodeEntries ((body.getD 1 0).toNat % 16) 0 (body.drop 15) with
        | none => exact ⟨fun h => absurd rfl h, fun ⟨_, _, _, _, _, es, rest, d, hes, _⟩ => absurd hes (by simp)⟩
        | some p =>
          obtain ⟨es, rest⟩ := p
          dsimp only
          cases hdelta : decodeDelta ((body.getD 6 0).toNat / 64 % 2 == 1) rest with
          | none =>
            refine ⟨fun h => absurd rfl h, fun ⟨_, _, _, _, _, es', rest', d, hes, hd⟩ => ?_⟩
            obtain ⟨-, rfl⟩ := Prod.mk.inj (Option.some.inj hes)
            exact absurd (hdelta.symm.trans hd) (by simp)
          | some d =>
            exact ⟨fun _ => ⟨by omega, hversion, hcode, by omega, by omega, es, rest, d, rfl, hdelta⟩, fun _ => by simp⟩

/-- Settles O28: a frame read whole is judged by its check word, its slot and its format, and what the format of a report is. -/
theorem wholeFrameIsJudged : Obligations.WholeFrameIsJudged := by
  refine ⟨fun s x len body check levels hat hx hreceiving hbytes hcells hlow hhigh hbody hcheck hlevels => ?judged,
    fun body at' hat' => ?format⟩
  case judged =>
    have hread := Reception.readCells_frame hbytes hcells hlow hhigh (rest := body ++ check) (by rw [List.length_append, hbody, hcheck]) hlevels
    have hjudged := judgeWhole_eq (slot := x.slot) hbody hcheck
    have hcount : 10 * (0xD5#8 :: len :: (body ++ check)).length + 0 - 1 = (len.toNat + 4) * 10 - 1 := by
      rw [List.length_cons, List.length_cons, List.length_append, hbody, hcheck]
      omega
    refine ⟨_, (judgeWhole x.slot len (body ++ check)).cell, exec_frameReceived_eq _ hat, fun hwrong => ?_, fun hright => ⟨fun hslot => ?_,
      fun hslot => ⟨fun hnone => ?_, fun y hy => ?_⟩⟩, ?_⟩
    · rw [hjudged, if_pos hwrong]
      rfl
    · rw [hjudged, if_neg (not_not.mpr hright), if_pos hslot]
      rfl
    · rw [hjudged, if_neg (not_not.mpr hright), if_neg (not_not.mpr hslot), hnone]
      rfl
    · rw [hjudged, if_neg (not_not.mpr hright), if_neg (not_not.mpr hslot), hy]
      rfl
    · rw [State.readFrame_whole hx hreceiving hread, State.endReception,
        State.atCell_eq s { x with bytes := 0xD5#8 :: len :: (body ++ check), cells := [], expected := some ((len.toNat + 4) * 10) } hcount]
      rfl
  case format =>
    subst hat'
    rw [decodeReport_iff]
    refine and_congr_right fun _ => and_congr_right fun _ => and_congr_right fun _ => and_congr_right fun _ => and_congr_right fun _ => ?_
    constructor
    · rintro ⟨es, rest, d, hes, hd⟩
      obtain ⟨entries, hbody, hlength, hall, -, hordered⟩ := (decodeEntries_iff _ 0 _ rest).mp ⟨es, hes⟩
      refine ⟨entries, rest, hbody, hlength, hall, hordered, ((decodeDelta_iff _ _).mp ⟨d, hd⟩).trans (if_congr beq_iff_eq rfl rfl)⟩
    · rintro ⟨entries, rest, hbody, hlength, hall, hordered, hdelta⟩
      obtain ⟨es, hes⟩ := (decodeEntries_iff _ 0 _ rest).mpr ⟨entries, hbody, hlength, hall, fun _ _ => Nat.zero_le _, hordered⟩
      obtain ⟨d, hd⟩ := (decodeDelta_iff _ rest).mpr (hdelta.trans (if_congr beq_iff_eq.symm rfl rfl))
      exact ⟨es, rest, d, hes, hd⟩

end Sys2Proof.Machine
end

section
/-! SUPPORT. A report's frame, written and read back (R48, R55, section 12.3). -/

namespace Sys2Proof.Machine

/-! ### Fields (section 12.1) -/

theorem leNat_leBytes {n v : Nat} (h : v < 256 ^ n) : leNat (leBytes n v) = v := by
  induction n generalizing v with
  | zero =>
    rw [Nat.pow_zero, Nat.lt_one_iff] at h
    exact h.symm
  | succ n ih =>
    have hrest : v / 256 < 256 ^ n := Nat.div_lt_of_lt_mul (by rwa [Nat.pow_succ, Nat.mul_comm] at h)
    have hstep : leNat (leBytes (n + 1) v) = (BitVec.ofNat 8 v).toNat + 256 * leNat (leBytes n (v / 256)) := rfl
    rw [hstep, ih hrest, BitVec.toNat_ofNat]
    exact Nat.mod_add_div v 256

theorem leNat_uField {n v : Nat} (h : v < 256 ^ n) : leNat (uField n v) = v := by
  have hmin : min v (256 ^ n - 1) = v := by omega
  rw [uField, hmin, leNat_leBytes h]

/-- A signed field in range is read as it was written. -/
theorem signedOf_sField {n : Nat} {v : Int} (hn : 0 < n) (hlow : -(2 ^ (8 * n - 1)) ≤ v) (hhigh : v ≤ 2 ^ (8 * n - 1) - 1) :
    signedOf n (leNat (sField n v)) = v := by
  have hdouble : (256 : Int) ^ n = 2 * 2 ^ (8 * n - 1) := by
    rw [← pow_succ', show 8 * n - 1 + 1 = 8 * n by omega, pow_mul]
    rfl
  have hfull : (2 : Int) ^ (8 * n) = 2 * 2 ^ (8 * n - 1) := by
    rw [← pow_succ', show 8 * n - 1 + 1 = 8 * n by omega]
  have hpos : (0 : Int) < 2 ^ (8 * n - 1) := by positivity
  have hclamp : clampInt (-(2 ^ (8 * n - 1))) (2 ^ (8 * n - 1) - 1) v = v := by
    rw [clampInt_eq _ _ _ (by omega)]
    omega
  have hmod : v % (256 : Int) ^ n = if 0 ≤ v then v else v + 256 ^ n := by
    split
    · exact Int.emod_eq_of_lt (by assumption) (by omega)
    · rw [← Int.add_emod_right]
      exact Int.emod_eq_of_lt (by omega) (by omega)
  have hlt : (v % (256 : Int) ^ n).toNat < 256 ^ n := by
    have hcast : ((256 ^ n : Nat) : Int) = (256 : Int) ^ n := by push_cast; rfl
    rw [hmod]
    split <;> omega
  have hhalf : ((2 ^ (8 * n - 1) : Nat) : Int) = (2 : Int) ^ (8 * n - 1) := by push_cast; rfl
  rw [sField, hclamp, leNat_leBytes hlt, signedOf, hfull, hmod]
  by_cases hsign : 0 ≤ v
  · rw [if_pos hsign, if_pos (by omega)]
    omega
  · rw [if_neg hsign, if_neg (by omega)]
    omega

/-! ### Entries (R93, section 12.3) -/

theorem ChannelKind.ofCode_code (k : ChannelKind) : ChannelKind.ofCode k.code = some k := by cases k <;> rfl

theorem Quality.ofCode_code (q : Quality) : Quality.ofCode q.code = some q := by cases q <;> rfl

theorem TimeState.ofCode_code (t : TimeState) : TimeState.ofCode t.code = some t := by cases t <;> rfl

theorem ChannelKind.code_le (k : ChannelKind) : k.code ≤ 5 := by cases k <;> decide

theorem Quality.code_le (q : Quality) : q.code ≤ 6 := by cases q <;> decide

theorem TimeState.code_le (t : TimeState) : t.code ≤ 5 := by cases t <;> decide

theorem flag_le (b : Bool) : flag b ≤ 1 := by cases b <;> decide

theorem byte_toNat {v : Nat} (h : v < 256) : (byte v).toNat = v := by
  rw [byte, BitVec.toNat_ofNat]
  exact Nat.mod_eq_of_lt h

/-- The descriptor of an entry, taken apart. -/
theorem descriptor_parts (index : Channel) (kind : ChannelKind) (quality : Quality) :
    (byte (descriptor index kind quality)).toNat % 4 = index.val ∧ (byte (descriptor index kind quality)).toNat / 4 % 8 = kind.code ∧
      (byte (descriptor index kind quality)).toNat / 32 = quality.code := by
  have hindex := index.isLt
  have hkind := kind.code_le
  have hquality := quality.code_le
  have hvalue : (byte (descriptor index kind quality)).toNat = index.val + 4 * kind.code + 32 * quality.code :=
    byte_toNat (by unfold descriptor; omega)
  rw [hvalue]
  omega

/-- The bytes of an entry's value, and of its vector fields. -/
def valueBytes (value : Option Int) : List Byte :=
  match value with
  | some v => sField 4 v
  | none => []

def vecBytes (vec : Option VectorFields) : List Byte :=
  match vec with
  | some x => sField 1 x.bias ++ [byte (x.bin % 16 + 16 * flag x.gliding)]
  | none => []

theorem encodeEntry_eq (e : ChannelEntry) :
    encodeEntry e = byte (descriptor e.index e.kind e.quality) :: (valueBytes e.value ++ vecBytes e.vec) := rfl

theorem valueBytes_length (value : Option Int) : (valueBytes value).length = if value.isSome then 4 else 0 := by
  cases value with
  | none => rfl
  | some v => exact sField_length 4 v

theorem vecBytes_length (vec : Option VectorFields) : (vecBytes vec).length = if vec.isSome then 2 else 0 := by
  cases vec with
  | none => rfl
  | some x => simp [vecBytes]

section

variable {e : ChannelEntry} (h : e.Sound)
include h

theorem ChannelEntry.Sound.payload_length : (valueBytes e.value ++ vecBytes e.vec).length = payloadLength e.kind e.quality := by
  rw [List.length_append, valueBytes_length, vecBytes_length, h.value, h.vec, payloadLength]

theorem ChannelEntry.Sound.value_eq (rest : List Byte) :
    (if e.quality.hasValue then some (signedOf 4 (leNat ((valueBytes e.value ++ rest).take 4))) else none) = e.value := by
  have hsome := h.value
  cases hvalue : e.value with
  | none =>
    rw [hvalue] at hsome
    rw [← hsome]
    rfl
  | some v =>
    rw [hvalue] at hsome
    obtain ⟨hlow, hhigh⟩ := h.range v hvalue
    have htake : (valueBytes (some v) ++ rest).take 4 = sField 4 v := List.take_left' (sField_length 4 v)
    rw [← hsome, htake, signedOf_sField (by decide) hlow hhigh]
    rfl

theorem ChannelEntry.Sound.vec_eq (rest : List Byte) :
    (if e.kind.isVector then
      some { bias := signedOf 1 ((vecBytes e.vec ++ rest).getD 0 0).toNat, bin := ((vecBytes e.vec ++ rest).getD 1 0).toNat % 16
             gliding := ((vecBytes e.vec ++ rest).getD 1 0).toNat / 16 % 2 == 1 : VectorFields }
      else none) = e.vec := by
  have hsome := h.vec
  cases hvec : e.vec with
  | none =>
    rw [hvec] at hsome
    rw [← hsome]
    rfl
  | some x =>
    rw [hvec] at hsome
    obtain ⟨⟨hlow, hhigh⟩, hbin⟩ := h.fields x hvec
    have hbias : signedOf 1 ((vecBytes (some x) ++ rest).getD 0 0).toNat = x.bias := by
      have hone : leNat (sField 1 x.bias) = ((vecBytes (some x) ++ rest).getD 0 0).toNat := Nat.add_zero _
      rw [← hone, signedOf_sField (by decide) hlow hhigh]
    have hflag := flag_le x.gliding
    have hlast : ((vecBytes (some x) ++ rest).getD 1 0).toNat = x.bin % 16 + 16 * flag x.gliding := byte_toNat (by omega)
    have hgliding : ((x.bin % 16 + 16 * flag x.gliding) / 16 % 2 == 1) = x.gliding := by
      have hdiv : (x.bin % 16 + 16 * flag x.gliding) / 16 % 2 = flag x.gliding := by omega
      rw [hdiv]
      cases x.gliding <;> rfl
    have hbinEq : (x.bin % 16 + 16 * flag x.gliding) % 16 = x.bin := by omega
    rw [← hsome, hbias, hlast, hgliding, hbinEq]
    rfl

/-- An entry is read as it was written. -/
theorem decodeEntry_encodeEntry (rest : List Byte) : decodeEntry (encodeEntry e ++ rest) = some (e, rest) := by
  obtain ⟨hindex, hkind, hquality⟩ := descriptor_parts e.index e.kind e.quality
  have hlength := h.payload_length
  have hvalueLength : (valueBytes e.value).length = if e.quality.hasValue then 4 else 0 := by rw [valueBytes_length, h.value]
  rw [encodeEntry_eq, List.cons_append, decodeEntry_of_codes (hkind ▸ e.kind.ofCode_code) (hquality ▸ e.quality.ofCode_code), if_neg h.kind,
    if_neg (by rw [List.length_append, hlength]; omega), List.drop_left' hlength]
  have hentry : readEntry (byte (descriptor e.index e.kind e.quality)) e.kind e.quality (valueBytes e.value ++ vecBytes e.vec ++ rest) = e := by
    have hdrop : (valueBytes e.value ++ vecBytes e.vec ++ rest).drop (if e.quality.hasValue then 4 else 0) = vecBytes e.vec ++ rest := by
      rw [List.append_assoc, List.drop_left' hvalueLength]
    unfold readEntry
    rw [hdrop, h.vec_eq, List.append_assoc, h.value_eq]
    simp only [hindex]
  rw [hentry]

end

/-- Entries in ascending channel index are read as they were written. -/
theorem decodeEntries_encoded (es : List ChannelEntry) (least : Nat) (rest : List Byte) (hsound : ∀ e ∈ es, e.Sound)
    (habove : ∀ e ∈ es, least ≤ e.index.val) (hordered : (es.map fun e => e.index.val).Pairwise (· < ·)) :
    decodeEntries es.length least (es.flatMap encodeEntry ++ rest) = some (es, rest) := by
  induction es generalizing least with
  | nil => rfl
  | cons e es ih =>
    obtain ⟨hfirst, hsound⟩ := List.forall_mem_cons.mp hsound
    obtain ⟨hleast, -⟩ := List.forall_mem_cons.mp habove
    rw [List.map_cons, List.pairwise_cons] at hordered
    have hrest := ih (e.index.val + 1) hsound (fun x hx => hordered.1 _ (List.mem_map_of_mem hx)) hordered.2
    rw [List.flatMap_cons, List.append_assoc, List.length_cons, decodeEntries, decodeEntry_encodeEntry hfirst]
    dsimp only
    rw [if_neg (Nat.not_lt.mpr hleast), hrest]

/-! ### The report and its frame (R48, R55, R92) -/

theorem referenceByte_parts {station : Nat} (channel : Channel) (h : station < 16) :
    (byte (referenceByte station channel)).toNat % 16 = station ∧ (byte (referenceByte station channel)).toNat / 16 % 4 = channel.val := by
  have hchannel := channel.isLt
  have hvalue : (byte (referenceByte station channel)).toNat = station % 16 + 16 * channel.val :=
    byte_toNat (by unfold referenceByte; omega)
  rw [hvalue]
  omega

theorem decodeDelta_encodeDelta {delta : Option DeltaF}
    (h : ∀ d, delta = some d → (-2147483648 ≤ d.value ∧ d.value ≤ 2147483647) ∧ d.station < 16) :
    decodeDelta delta.isSome (encodeDelta delta) = some delta := by
  cases delta with
  | none => rfl
  | some d =>
    obtain ⟨⟨hlow, hhigh⟩, hstation⟩ := h d rfl
    obtain ⟨hparts, hchannel⟩ := referenceByte_parts d.channel hstation
    have hbytes : encodeDelta (some d) = sField 4 d.value ++ [byte (referenceByte d.station d.channel)] := rfl
    have htake : (sField 4 d.value ++ [byte (referenceByte d.station d.channel)]).take 4 = sField 4 d.value :=
      List.take_left' (sField_length _ _)
    have hlast : (sField 4 d.value ++ [byte (referenceByte d.station d.channel)]).getD 4 0 = byte (referenceByte d.station d.channel) := by
      rw [List.getD_eq_getElem?_getD, List.getElem?_append_right (by simp)]
      simp
    unfold decodeDelta
    dsimp only
    rw [Option.isSome_some, if_pos rfl, hbytes, if_pos (by simp), htake, signedOf_sField (by decide) hlow hhigh]
    simp only [hlast, hparts, hchannel]

/-- The fields of a body whose header is in order. -/
theorem decodeReport_of_parts {station header flags : Byte} {epoch age phase conditions tail rest : List Byte} {ts : TimeState}
    {es : List ChannelEntry} {delta : Option DeltaF} (hepoch : epoch.length = 4) (hage : age.length = 4) (hphase : phase.length = 2)
    (hconditions : conditions.length = 2) (hversion : header.toNat / 16 = 1) (hcount : header.toNat % 16 ≤ 4)
    (hrank : flags.toNat / 8 % 4 ≤ 2) (hts : TimeState.ofCode (flags.toNat % 8) = some ts)
    (hes : decodeEntries (header.toNat % 16) 0 tail = some (es, rest))
    (hdelta : decodeDelta (flags.toNat / 64 % 2 == 1) rest = some delta) :
    decodeReport ([station, header] ++ epoch ++ [flags] ++ age ++ phase ++ conditions ++ tail) =
      some { station := station.toNat, epoch := BitVec.ofNat 32 (leNat epoch), timeState := ts, rank := flags.toNat / 8 % 4
             led := flags.toNat / 32 % 2 == 1, sourceAge := leNat age, markPhase := signedOf 2 (leNat phase)
             conditions := BitVec.ofNat 16 (leNat conditions), entries := es, deltaF := delta } := by
  match epoch, hepoch, age, hage, phase, hphase, conditions, hconditions with
  | [e0, e1, e2, e3], _, [a0, a1, a2, a3], _, [p0, p1], _, [c0, c1], _ =>
    have hbody : [station, header] ++ [e0, e1, e2, e3] ++ [flags] ++ [a0, a1, a2, a3] ++ [p0, p1] ++ [c0, c1] ++ tail =
        station :: header :: e0 :: e1 :: e2 :: e3 :: flags :: a0 :: a1 :: a2 :: a3 :: p0 :: p1 :: c0 :: c1 :: tail := rfl
    rw [hbody]
    unfold decodeReport
    rw [if_neg (by simp only [List.length_cons]; omega)]
    simp only [List.getD_cons_succ, List.getD_cons_zero, List.drop_succ_cons, List.drop_zero, List.take_succ_cons, List.take_zero]
    rw [if_neg (by omega), hts]
    dsimp only
    rw [hes]
    dsimp only
    rw [hdelta]

/-- At most four entries ascend in channel index. -/
theorem Report.Sound.entries_length {r : Report} (h : r.Sound) : r.entries.length ≤ 4 := by
  have hsub : (r.entries.map fun e => e.index.val).Subperm (List.range 4) := by
    refine List.subperm_of_subset (h.ascending.imp fun hlt => Nat.ne_of_lt hlt) fun i hi => ?_
    obtain ⟨e, -, rfl⟩ := List.mem_map.mp hi
    exact List.mem_range.mpr e.index.isLt
  simpa using hsub.length_le

theorem encodeEntries_length {es : List ChannelEntry} (h : ∀ e ∈ es, e.Sound) : (es.flatMap encodeEntry).length ≤ 7 * es.length := by
  induction es with
  | nil => exact Nat.le_refl 0
  | cons e es ih =>
    obtain ⟨hfirst, hrest⟩ := List.forall_mem_cons.mp h
    have hentry : (encodeEntry e).length ≤ 7 := by
      rw [encodeEntry_eq, List.length_cons, hfirst.payload_length, payloadLength]
      split <;> split <;> omega
    have := ih hrest
    rw [List.flatMap_cons, List.length_append, List.length_cons]
    omega

theorem encodeDelta_length (d : Option DeltaF) : (encodeDelta d).length ≤ 5 := by
  cases d with
  | none => exact Nat.zero_le _
  | some d => simp [encodeDelta]

theorem encodeReport_length {r : Report} (h : r.Sound) : 15 ≤ (encodeReport r).length ∧ (encodeReport r).length ≤ 48 := by
  have hentries := encodeEntries_length h.entries
  have hcount := h.entries_length
  have hdelta := encodeDelta_length r.deltaF
  have hlength : (encodeReport r).length = 15 + (r.entries.flatMap encodeEntry).length + (encodeDelta r.deltaF).length := by
    simp [encodeReport]
    omega
  omega

/-- A report's body is read as it was written. -/
theorem decodeReport_encodeReport {r : Report} (h : r.Sound) : decodeReport (encodeReport r) = some r := by
  have hcount := h.entries_length
  have hrank := h.rank
  have hstate := r.timeState.code_le
  have hled := flag_le r.led
  have hsome := flag_le r.deltaF.isSome
  have hheader : (byte (r.entries.length % 16 + 16)).toNat = r.entries.length + 16 := by rw [byte_toNat] <;> omega
  have hflags : (byte (r.timeState.code + 8 * (r.rank % 4) + 32 * flag r.led + 64 * flag r.deltaF.isSome)).toNat =
      r.timeState.code + 8 * r.rank + 32 * flag r.led + 64 * flag r.deltaF.isSome := by rw [byte_toNat] <;> omega
  have hbit (b : Bool) (n : Nat) (hn : n = flag b) : (n == 1) = b := by
    subst hn
    cases b <;> rfl
  have hentries := decodeEntries_encoded r.entries 0 (encodeDelta r.deltaF) h.entries (fun _ _ => Nat.zero_le _) h.ascending
  have hparts := decodeReport_of_parts (station := byte r.station) (header := byte (r.entries.length % 16 + 16))
    (flags := byte (r.timeState.code + 8 * (r.rank % 4) + 32 * flag r.led + 64 * flag r.deltaF.isSome)) (epoch := leBytes 4 r.epoch.toNat)
    (age := uField 4 r.sourceAge) (phase := sField 2 r.markPhase) (conditions := leBytes 2 r.conditions.toNat)
    (tail := r.entries.flatMap encodeEntry ++ encodeDelta r.deltaF) (ts := r.timeState) (es := r.entries) (delta := r.deltaF)
    (leBytes_length _ _) (uField_length _ _) (sField_length _ _) (leBytes_length _ _) (by rw [hheader]; omega) (by rw [hheader]; omega)
    (by rw [hflags]; omega) (by
      rw [hflags, show (r.timeState.code + 8 * r.rank + 32 * flag r.led + 64 * flag r.deltaF.isSome) % 8 = r.timeState.code by omega]
      exact r.timeState.ofCode_code)
    (by rw [hheader, show (r.entries.length + 16) % 16 = r.entries.length by omega]; exact hentries)
    (by
      rw [hflags, hbit r.deltaF.isSome _ (by omega)]
      exact decodeDelta_encodeDelta h.deltaF)
  have hbody : encodeReport r = [byte r.station, byte (r.entries.length % 16 + 16)] ++ leBytes 4 r.epoch.toNat ++
      [byte (r.timeState.code + 8 * (r.rank % 4) + 32 * flag r.led + 64 * flag r.deltaF.isSome)] ++ uField 4 r.sourceAge ++
      sField 2 r.markPhase ++ leBytes 2 r.conditions.toNat ++ (r.entries.flatMap encodeEntry ++ encodeDelta r.deltaF) := by
    simp only [encodeReport, List.append_assoc]
  have hage : leNat (uField 4 r.sourceAge) = r.sourceAge := leNat_uField (Nat.lt_succ_of_le h.sourceAge)
  have hrankEq : (r.timeState.code + 8 * r.rank + 32 * flag r.led + 64 * flag r.deltaF.isSome) / 8 % 4 = r.rank := by omega
  rw [hbody, hparts, hflags, byte_toNat h.station, leNat_leBytes r.epoch.isLt, leNat_leBytes r.conditions.isLt, hage, hrankEq,
    signedOf_sField (by decide) h.markPhase.1 h.markPhase.2, hbit r.led _ (by omega), BitVec.ofNat_toNat, BitVec.ofNat_toNat,
    BitVec.setWidth_eq, BitVec.setWidth_eq]

/-- Settles O31: a report is read back from its body, and from its frame in its own slot. -/
theorem reportFrameRoundTrips : Obligations.ReportFrameRoundTrips := by
  intro r hsound
  have hbody := decodeReport_encodeReport hsound
  refine ⟨hbody, fun k hstation => ?_⟩
  obtain ⟨hlow, hhigh⟩ := encodeReport_length hsound
  have hlen : (byte (encodeReport r).length).toNat = (encodeReport r).length := byte_toNat (by omega)
  have hframe : encodeFrame r = 0xD5#8 :: byte (encodeReport r).length ::
      (encodeReport r ++ leBytes 2 (checkWord (byte (encodeReport r).length :: encodeReport r)).toNat) := rfl
  have hfirst : (encodeReport r).getD 0 0 = byte r.station := rfl
  have hcheck : leNat (leBytes 2 (checkWord (byte (encodeReport r).length :: encodeReport r)).toNat) =
      (checkWord (byte (encodeReport r).length :: encodeReport r)).toNat := leNat_leBytes (BitVec.isLt _)
  rw [hframe]
  unfold judgeFrame
  dsimp only
  rw [if_neg (not_not.mpr rfl), if_neg (by rw [hlen]; omega), if_neg (by rw [List.length_append, hlen, leBytes_length]; omega),
    judgeWhole_eq hlen.symm (leBytes_length _ _), if_neg (not_not.mpr hcheck), hfirst, byte_toNat hsound.station,
    if_neg (not_not.mpr hstation), hbody]

end Sys2Proof.Machine
end

section
/-! SUPPORT. The chain word: sent, read and taken as a station's number (R64 to R70). -/

namespace Sys2Proof.Machine

/-! ### Sending the word (R65) -/

theorem chainCells_getD (number : BitVec 4) (cell : Nat) : (chainCells number).getD cell false =
    if cell = 0 then true
    else if cell ≤ 4 then number.getLsbD (cell - 1)
    else if cell ≤ 8 then !number.getLsbD (cell - 5) else false := by
  by_cases hcell : cell < 10
  · interval_cases cell <;> rfl
  · have hlength : (chainCells number).length ≤ cell := by
      simp [chainCells]
      omega
    rw [List.getD_eq_getElem?_getD, List.getElem?_eq_none hlength, if_neg (by omega), if_neg (by omega), if_neg (by omega)]
    rfl

/-- A cell sequence in progress that may have begun before the epoch. -/
theorem State.drivenAt_cell_of_int {s : State} {start : Int} {cell : Nat} (cells : List Bool)
    (hlow : start + (cell * 3125 / 3 : Nat) ≤ s.tb.tick) (hhigh : (s.tb.tick : Int) < start + ((cell + 1) * 3125 / 3 : Nat)) :
    s.drivenAt start cells = cells.getD cell false := by
  rw [State.drivenAt, decide_eq_true (by omega), Bool.true_and, cellAt_eq_of_between (cell := cell) (by omega) (by omega)]

theorem State.choutDrive_of_word {s : State} {w : ChainWord} (h : s.member.chainTx = some w) :
    s.choutDrive = s.drivenAt w.start (chainCells (BitVec.ofNat 4 (w.number.val + 1))) := by
  rw [State.choutDrive, h]
  rfl

theorem chainBit_eq_testBit (k : Station) {j : Nat} (h : j < 4) : (BitVec.ofNat 4 (k.val + 1)).getLsbD j = (k.val + 1).testBit j := by
  rw [BitVec.getLsbD_ofNat, decide_eq_true h, Bool.true_and]

section
variable {s : State} (hrunning : s.phase = .running) (hactive : s.member.state ≠ .halted)
include hrunning hactive

theorem exec_chainWordSend_numbered {k : Station} (h : s.member.number = some k) :
    exec .chainWordSend s =
      .next ((s.reach Config.chainWord).setMember { s.member with chainTx := some { number := k, start := 9500000 } }) := by
  dsimp only [exec, execChainWordSend]
  rw [atHut_active s _ hrunning hactive]
  simp only [h]

theorem exec_chainWordSend_unnumbered (h : s.member.number = none) : exec .chainWordSend s = .next (s.reach Config.chainWord) := by
  dsimp only [exec, execChainWordSend]
  rw [atHut_active s _ hrunning hactive]
  simp only [h]

theorem exec_chainWordEnd_sending {w : ChainWord} (h : s.member.chainTx = some w) :
    exec .chainWordEnd s = .next ((s.reach (w.start + cellStart 10).toNat).setMember { s.member with chainTx := none }) := by
  dsimp only [exec, execChainWordEnd]
  rw [atHut_active s _ hrunning hactive]
  simp only [h]

end

/-- Settles O32: a station with a number sends its word, and its ten cells drive CHOUT. -/
theorem chainWordIsSent : Obligations.ChainWordIsSent := by
  intro s ⟨hrunning, hactive⟩
  refine ⟨fun k hk => ?_, fun hnone => ?_, fun w hw => ⟨?_, fun cell hlow hhigh => ?_, fun hearly => ?_⟩, fun hnone => ?_⟩
  · exact exec_chainWordSend_numbered hrunning hactive hk
  · exact exec_chainWordSend_unnumbered hrunning hactive hnone
  · exact exec_chainWordEnd_sending hrunning hactive hw
  · rw [State.choutDrive_of_word hw, State.drivenAt_cell_of_int _ hlow hhigh, chainCells_getD]
    split_ifs with hstart hnumber hcomplement
    · rfl
    · exact chainBit_eq_testBit _ (by omega)
    · rw [chainBit_eq_testBit _ (by omega)]
    · rfl
  · rw [State.choutDrive_of_word hw, State.drivenAt, decide_eq_false (by omega), Bool.false_and]
  · rw [State.choutDrive, hnone]
    rfl

/-! ### Reading the word (R66, R67) -/

theorem cellsNumber_bits : ∀ number : BitVec 4, cellsNumber ((List.range 4).map number.getLsbD) = number := by decide

/-- Four cells that carry the bits of a number are read as the number. -/
theorem cellsNumber_of_bits {word : List Bool} {number : BitVec 4} (k : Nat) (hk : k + 4 ≤ 10)
    (h : ∀ j < 4, word[k + j]? = some (number.getLsbD j)) : cellsNumber (((word.take 10).drop k).take 4) = number := by
  have hcells : ((word.take 10).drop k).take 4 = (List.range 4).map number.getLsbD := by
    refine List.ext_getElem? fun j => ?_
    by_cases hj : j < 4
    · rw [List.getElem?_take_of_lt hj, List.getElem?_drop, List.getElem?_take_of_lt (by omega), h j hj]
      simp [hj]
    · rw [List.getElem?_eq_none (by simp; omega), List.getElem?_eq_none (by simp; omega)]
  rw [hcells]
  exact cellsNumber_bits number

theorem chainWordValid_iff (number complement : BitVec 4) (stop : Bool) : chainWordValid number complement stop = true ↔
    stop = false ∧ complement = ~~~number ∧ 1 ≤ number.toNat ∧ number.toNat ≤ 7 := by
  simp [chainWordValid, and_assoc]

/-- The state at the completion of a word, before the word is judged. -/
def State.atWordEnd (s : State) (start : Int) : State :=
  (s.reach (start + 9895).toNat).setMember { s.member with chainAfter := start + 9895 }

/-- The member of a station that has heard a word complete. -/
def Member.heardWord (m : Member) (start : Int) : Member :=
  { m with chainAfter := start + 9895, quiet := 0, wordSeen := true, chainRx := .hunting }

theorem State.readWord_of_bits (s : State) (start : Int) {word : List Bool} {number complement : BitVec 4} {stop : Bool}
    (hbits : ∀ j < 4, word[1 + j]? = some (number.getLsbD j) ∧ word[5 + j]? = some (complement.getLsbD j))
    (hstop : word[9]? = some stop) : s.readWord start word = (s.atWordEnd start).wordComplete number complement stop := by
  have hlength : 10 ≤ word.length := by
    have := (List.getElem?_eq_some_iff.mp hstop).1
    omega
  have hstopCell : (word.take 10).getD 9 false = stop := by
    rw [List.getD_eq_getElem?_getD, List.getElem?_take_of_lt (by omega), hstop]
    rfl
  rw [State.readWord_whole s start word hlength, cellsNumber_of_bits 1 (by omega) fun j hj => (hbits j hj).1,
    cellsNumber_of_bits 5 (by omega) fun j hj => (hbits j hj).2, hstopCell]
  rfl

theorem State.wordComplete_faulty (s : State) (start : Int) {number complement : BitVec 4} {stop : Bool}
    (h : ¬ chainWordValid number complement stop = true) : (s.atWordEnd start).wordComplete number complement stop =
      ((s.atWordEnd start).setMember (s.member.heardWord start).clearRun).raise .chainFault := if_neg h

theorem State.wordComplete_held {s : State} {start : Int} {number complement : BitVec 4} {stop : Bool} {m : Member}
    (hvalid : chainWordValid number complement stop = true)
    (hhear : (s.member.heardWord start).hear (chainNumber number) = { member := m, adopted := none }) :
    (s.atWordEnd start).wordComplete number complement stop = (s.atWordEnd start).setMember m := by
  refine (if_pos hvalid).trans ?_
  change (match ((s.member.heardWord start).hear (chainNumber number)).adopted with | some _ => _ | none => _) = _
  simp only [hhear]
  exact congrArg (fun o => (s.atWordEnd start).setMember (WordOutcome.member o)) hhear

theorem State.wordComplete_adopted {s : State} {start : Int} {number complement : BitVec 4} {stop : Bool} {m : Member} {k : Station}
    (hvalid : chainWordValid number complement stop = true)
    (hhear : (s.member.heardWord start).hear (chainNumber number) = { member := m, adopted := some k }) :
    (s.atWordEnd start).wordComplete number complement stop = ((s.atWordEnd start).setMember m).adoptNumber k := by
  refine (if_pos hvalid).trans ?_
  change (match ((s.member.heardWord start).hear (chainNumber number)).adopted with | some _ => _ | none => _) = _
  simp only [hhear]
  exact congrArg (fun o => ((s.atWordEnd start).setMember (WordOutcome.member o)).adoptNumber k) hhear

/-! ### The number that a word names (R68 to R70) -/

section
variable {m : Member} {k own : Station}

theorem Member.hear_unnumbered (h : m.number = none) : m.hear k = { member := m, adopted := some k } := by
  rw [Member.hear, h]

theorem Member.hear_own (h : m.number = some k) : m.hear k = { member := m.clearRun, adopted := none } := by
  rw [Member.hear, h]
  exact if_pos rfl

theorem Member.hear_first (h : m.number = some own) (hne : own ≠ k) (hcandidate : m.candidate ≠ some k) :
    m.hear k = { member := { m with candidate := some k, repeatCount := 1 }, adopted := none } := by
  rw [Member.hear, h]
  exact (if_neg hne.symm).trans (if_neg hcandidate)

theorem Member.hear_again (h : m.number = some own) (hne : own ≠ k) (hcandidate : m.candidate = some k) (hcount : m.repeatCount < 2) :
    m.hear k = { member := { m with repeatCount := m.repeatCount + 1 }, adopted := none } := by
  rw [Member.hear, h]
  exact (if_neg hne.symm).trans ((if_pos hcandidate).trans (if_neg (by omega)))

theorem Member.hear_third (h : m.number = some own) (hne : own ≠ k) (hcandidate : m.candidate = some k) (hcount : 2 ≤ m.repeatCount) :
    m.hear k = { member := m.clearRun, adopted := some k } := by
  rw [Member.hear, h]
  exact (if_neg hne.symm).trans ((if_pos hcandidate).trans (if_pos (by omega)))

end

theorem State.adoptNumber_of_not_member {s : State} (k : Station) (h : s.member.state ≠ .member) :
    s.adoptNumber k = s.setMember (s.member.adopt k) := by
  unfold State.adoptNumber
  cases hstate : s.member.state with
  | member => exact absurd hstate h
  | unnumbered | joining | conflict | halted => rfl

theorem State.adoptNumber_of_member {s : State} (k : Station) (h : s.member.state = .member) :
    s.adoptNumber k = s.leaveMember.setMember (s.leaveMember.member.adopt k) := by
  unfold State.adoptNumber
  rw [h]

theorem State.adoptNumber_member_eq (s : State) (k : Station) : (s.adoptNumber k).member = s.member.adopt k := by
  by_cases hstate : s.member.state = .member
  · rw [State.adoptNumber_of_member k hstate, State.setMember_member, State.leaveMember_member]
  · rw [State.adoptNumber_of_not_member k hstate, State.setMember_member]

end Sys2Proof.Machine
end

section
/-! SUPPORT. The chain word that a station receives (R66 to R70, R82). -/

namespace Sys2Proof.Machine

/-! ### The command CHAIN_WORD_RECEIVED -/

section
variable {s : State} (hrunning : s.phase = .running) (hactive : s.member.state ≠ .halted)
include hrunning hactive

theorem exec_chainWordReceived_unchained (rise : Int) (asserted : Bool) (cells : List Bool) (h : ¬ chained s.setup s.member = true) :
    exec (.chainWordReceived rise asserted cells) s = .next s := by
  dsimp only [exec, execChainWordReceived]
  rw [atHut_active s _ hrunning hactive]
  simp only [if_neg h]

theorem exec_chainWordReceived_stale {rise : Int} (asserted : Bool) (cells : List Bool) (hrx : s.member.chainRx = .hunting)
    (hrise : rise ≤ s.member.chainAfter) : exec (.chainWordReceived rise asserted cells) s = .next s := by
  dsimp only [exec, execChainWordReceived]
  rw [atHut_active s _ hrunning hactive]
  simp only [hrx, if_pos hrise, ite_self]

theorem exec_chainWordReceived_transient {rise : Int} (cells : List Bool) (h : chained s.setup s.member = true)
    (hrx : s.member.chainRx = .hunting) (hrise : s.member.chainAfter < rise) :
    exec (.chainWordReceived rise false cells) s = .next (s.reach (rise + cellCentre 0).toNat) := by
  dsimp only [exec, execChainWordReceived]
  rw [atHut_active s _ hrunning hactive]
  simp only [if_pos h, hrx, if_neg (Int.not_le.mpr hrise), if_neg Bool.false_ne_true]

theorem exec_chainWordReceived_begins {rise : Int} (cells : List Bool) (h : chained s.setup s.member = true)
    (hrx : s.member.chainRx = .hunting) (hrise : s.member.chainAfter < rise) :
    exec (.chainWordReceived rise true cells) s = .next (s.readWord rise (true :: cells)) := by
  dsimp only [exec, execChainWordReceived]
  rw [atHut_active s _ hrunning hactive]
  simp only [if_pos h, hrx, if_neg (Int.not_le.mpr hrise), if_true]

theorem exec_chainWordReceived_reading (rise : Int) (asserted : Bool) {start : Int} (cells : List Bool) {read : List Bool}
    (h : chained s.setup s.member = true) (hrx : s.member.chainRx = .reading start read) :
    exec (.chainWordReceived rise asserted cells) s = .next (s.readWord start (read ++ cells)) := by
  dsimp only [exec, execChainWordReceived]
  rw [atHut_active s _ hrunning hactive]
  simp only [if_pos h, hrx]

end

/-! ### What a completed word leaves -/

/-- What every valid word leaves, whoever it names. -/
structure WordTaken (s t : State) (start : Int) : Prop where
  quiet : t.member.quiet = 0
  wordSeen : t.member.wordSeen = true
  chainRx : t.member.chainRx = .hunting
  chainAfter : t.member.chainAfter = start + 9895
  raised : t.raised = s.raised
  tb : t.tb = { s.tb with tick := max s.tb.tick (start + 9895).toNat }

/-- A change of the member that concerns no reading of the chain. -/
structure Member.SameReading (m m' : Member) : Prop where
  quiet : m'.quiet = m.quiet
  wordSeen : m'.wordSeen = m.wordSeen
  chainRx : m'.chainRx = m.chainRx
  chainAfter : m'.chainAfter = m.chainAfter

theorem Member.hear_sameReading (m : Member) (k : Station) : m.SameReading (m.hear k).member := by
  unfold Member.hear
  split
  next => exact ⟨rfl, rfl, rfl, rfl⟩
  next =>
    split_ifs
    all_goals exact ⟨rfl, rfl, rfl, rfl⟩

section
variable {s : State} {start : Int} {m : Member} {k : Station}

theorem State.wordTaken_held (h : (s.member.heardWord start).SameReading m) : WordTaken s ((s.atWordEnd start).setMember m) start :=
  ⟨h.quiet, h.wordSeen, h.chainRx, h.chainAfter, rfl, rfl⟩

theorem State.wordTaken_adopted (h : (s.member.heardWord start).SameReading m) :
    WordTaken s (((s.atWordEnd start).setMember m).adoptNumber k) start where
  quiet := (congrArg Member.quiet (State.adoptNumber_member_eq _ _)).trans h.quiet
  wordSeen := (congrArg Member.wordSeen (State.adoptNumber_member_eq _ _)).trans h.wordSeen
  chainRx := (congrArg Member.chainRx (State.adoptNumber_member_eq _ _)).trans h.chainRx
  chainAfter := (congrArg Member.chainAfter (State.adoptNumber_member_eq _ _)).trans h.chainAfter
  raised := State.adoptNumber_raised _ _
  tb := State.adoptNumber_tb _ _

/-- A station that is no member takes a number with nothing to give up. -/
theorem State.adopted_outside (hm : m.state = s.member.state) (hstate : s.member.state ≠ .member) :
    (((s.atWordEnd start).setMember m).adoptNumber k).table = s.table ∧
      (((s.atWordEnd start).setMember m).adoptNumber k).mark = s.mark ∧
      (((s.atWordEnd start).setMember m).adoptNumber k).line = s.line := by
  rw [State.adoptNumber_of_not_member k (show ((s.atWordEnd start).setMember m).member.state ≠ .member from hm.trans_ne hstate)]
  exact ⟨rfl, rfl, rfl⟩

theorem DataLine.releaseWindow_eq (l : DataLine) (tick : Nat) : l.releaseWindow tick =
    { l with
      summaryDriving := false, summaryDriveEnd := min l.summaryDriveEnd tick
      summaryRise := if l.summaryDriving = true ∧ l.summaryRise = some 8300000 ∧ tick < 8300520 then none else l.summaryRise } := by
  have hcond : (l.summaryDriving && decide (l.summaryRise = some Config.summaryWindow) &&
      decide (tick < Config.summaryWindow + cellCentre 0)) = true ↔
      l.summaryDriving = true ∧ l.summaryRise = some 8300000 ∧ tick < 8300520 := by
    rw [Bool.and_eq_true, Bool.and_eq_true, decide_eq_true_iff, decide_eq_true_iff, and_assoc]
    rfl
  exact congrArg (fun rise => { l with summaryDriving := false, summaryDriveEnd := min l.summaryDriveEnd tick, summaryRise := rise })
    (if_congr hcond rfl rfl)

/-- A member that takes another number stops leading and driving. -/
theorem State.adopted_member (hm : m.state = s.member.state) (hstate : s.member.state = .member) :
    let t := ((s.atWordEnd start).setMember m).adoptNumber k
    t.mark = { s.mark with led := false, drive := .released } ∧
      t.table = (match s.line.tx with
        | some x => s.table.mapCell x.slot fun c => { c with state := .aborted }
        | none => s.table) ∧
      t.line = { s.line with
        tx := none, collisions := 0, summaryDriving := false, summaryDriveEnd := min s.line.summaryDriveEnd t.tb.tick
        summaryRise := if s.line.summaryDriving = true ∧ s.line.summaryRise = some 8300000 ∧ t.tb.tick < 8300520 then none
          else s.line.summaryRise } := by
  dsimp only
  rw [State.adoptNumber_of_member k (show ((s.atWordEnd start).setMember m).member.state = .member from hm.trans hstate)]
  refine ⟨State.leaveMember_mark_eq _, ?_, ?_⟩
  · exact (State.leaveMember_table_eq _).trans (State.abortTransmission_table_eq _)
  · rw [State.setMember_line, State.leaveMember_line_eq, DataLine.releaseWindow_eq]
    simp only [State.setMember_tb, State.leaveMember_tb]
    rfl

end

/-! ### The statement -/

theorem chainNumber_eq {number : BitVec 4} {m : Station} (h : m.val = number.toNat) : chainNumber number = m :=
  Fin.ext ((Nat.mod_eq_of_lt (h ▸ m.isLt)).trans h.symm)

theorem not_chainWordValid {number complement : BitVec 4} {stop : Bool}
    (h : stop = true ∨ complement ≠ ~~~number ∨ number.toNat = 0 ∨ 8 ≤ number.toNat) :
    ¬ chainWordValid number complement stop = true := by
  rw [chainWordValid_iff]
  rintro ⟨hstop, hcomplement, hlow, hhigh⟩
  rcases h with h | h | h | h
  · exact Bool.false_ne_true (hstop.symm.trans h)
  · exact h hcomplement
  · omega
  · omega

/-- A valid word counts, and reading ends, whatever it does to the number. -/
theorem State.wordTaken_of_valid (s : State) (start : Int) {number complement : BitVec 4} {stop : Bool}
    (hvalid : chainWordValid number complement stop = true) :
    WordTaken s ((s.atWordEnd start).wordComplete number complement stop) start := by
  obtain ⟨o, hhear⟩ : ∃ o, (s.member.heardWord start).hear (chainNumber number) = o := ⟨_, rfl⟩
  have hsame : (s.member.heardWord start).SameReading o.member := hhear ▸ Member.hear_sameReading _ _
  cases hadopted : o.adopted with
  | none =>
    rw [State.wordComplete_held (m := o.member) hvalid (by rw [hhear, ← hadopted])]
    exact State.wordTaken_held hsame
  | some k =>
    rw [State.wordComplete_adopted (m := o.member) (k := k) hvalid (by rw [hhear, ← hadopted])]
    exact State.wordTaken_adopted hsame

/-- A boundary keeps the reading of the chain, on its own time scale. -/
theorem State.countedBoundary_chain (s : State) (temp : Int) :
    (s.countedBoundary temp).member.chainAfter = s.member.chainAfter - s.tb.epochLength ∧
      (s.countedBoundary temp).member.chainRx = s.member.chainRx.rebase s.tb.epochLength := by
  have hmember : (s.countedBoundary temp).member = s.member.boundary (true && chained s.setup s.member) s.tb.epochLength :=
    State.blocksAtBoundary_member_eq _ _ _
  rw [hmember]
  exact ⟨rfl, rfl⟩

/-- Settles O33: what a received chain word does to a station and its number. -/
theorem chainWordNumbersStation : Obligations.ChainWordNumbersStation := by
  refine ⟨fun s rise start asserted cells word ⟨hrunning, hactive⟩ hfixed hhead hword => ?_, ?_, ?_, ?_, ?_⟩
  · have hchained : chained s.setup s.member = true := (chained_iff _ _).mpr ⟨hfixed, hhead, hactive⟩
    have hexec : exec (.chainWordReceived rise asserted cells) s = .next (s.readWord start word) := by
      rcases hword with ⟨hrx, hrise, rfl, rfl, rfl⟩ | ⟨read, hrx, rfl⟩
      · exact exec_chainWordReceived_begins hrunning hactive cells hchained hrx hrise
      · exact exec_chainWordReceived_reading hrunning hactive rise asserted cells hchained hrx
    rw [hexec]
    refine ⟨fun hshort => ?_, fun number complement stop hbits hstop =>
      ⟨fun hfaulty => ?_, fun m hstopCell hcomplement hm hlow => ?_⟩⟩
    · rw [State.readWord_partial _ _ _ hshort]
      rfl
    · rw [State.readWord_of_bits s start hbits hstop, State.wordComplete_faulty s start (not_chainWordValid hfaulty)]
      rfl
    · have hvalid : chainWordValid number complement stop = true :=
        (chainWordValid_iff _ _ _).mpr ⟨hstopCell, hcomplement, by omega, by omega⟩
      obtain rfl : m = chainNumber number := (chainNumber_eq hm).symm
      rw [State.readWord_of_bits s start hbits hstop]
      obtain ⟨hquiet, hseen, hrx, hafter, hraised, htb⟩ := State.wordTaken_of_valid s start hvalid
      refine ⟨_, rfl, hquiet, hseen, hrx, hafter, hraised, htb, fun hnone => ?_, fun hown => ?_, fun own hown hne hother => ?_,
        fun own hown hne hsame hcount => ?_, fun own hown hne hsame hcount => ?_⟩
      · rw [State.wordComplete_adopted hvalid (Member.hear_unnumbered (m := s.member.heardWord start) hnone), State.adoptNumber_member_eq]
        exact ⟨rfl, rfl, rfl, rfl, rfl, State.adopted_outside rfl⟩
      · rw [State.wordComplete_held hvalid (Member.hear_own (m := s.member.heardWord start) hown)]
        exact ⟨hown, rfl, rfl, rfl, rfl, rfl, rfl⟩
      · rw [State.wordComplete_held hvalid (Member.hear_first (m := s.member.heardWord start) hown hne hother)]
        exact ⟨hown, rfl, rfl, rfl, rfl, rfl, rfl⟩
      · rw [State.wordComplete_held hvalid (Member.hear_again (m := s.member.heardWord start) hown hne hsame hcount)]
        exact ⟨hown, rfl, hsame, rfl, rfl, rfl, rfl⟩
      · rw [State.wordComplete_adopted hvalid (Member.hear_third (m := s.member.heardWord start) hown hne hsame hcount),
          State.adoptNumber_member_eq]
        exact ⟨rfl, rfl, rfl, rfl, rfl, rfl, State.adopted_member rfl, State.adopted_outside rfl⟩
  · rintro s rise cells ⟨hrunning, hactive⟩ hfixed hhead hrx hrise
    exact exec_chainWordReceived_transient hrunning hactive cells ((chained_iff _ _).mpr ⟨hfixed, hhead, hactive⟩) hrx hrise
  · rintro s rise asserted cells hrx hrise ⟨hrunning, hactive⟩
    exact exec_chainWordReceived_stale hrunning hactive asserted cells hrx hrise
  · intro s temp hrunning
    obtain ⟨hafter, hrx⟩ := s.countedBoundary_chain temp
    refine ⟨_, exec_ownBoundary_running s temp hrunning, hafter, fun h => ?_, fun start read h => ?_⟩
    · exact hrx.trans (congrArg (ChainRx.rebase · _) h)
    · exact hrx.trans (congrArg (ChainRx.rebase · _) h)
  · rintro s rise asserted cells ⟨hrunning, hactive⟩ hnot
    refine exec_chainWordReceived_unchained hrunning hactive rise asserted cells fun h => ?_
    obtain ⟨hfixed, hhead, -⟩ := (chained_iff _ _).mp h
    rcases hnot with hnot | hnot
    · exact hnot hfixed
    · exact Bool.false_ne_true (hhead.symm.trans hnot)

end Sys2Proof.Machine
end

section
/-! SUPPORT. Conversions: what they hand to the decimator and leave in the front-end (R103 to R114, R121). -/

namespace Sys2Proof.Machine

/-! ### The command CONVERSION -/

theorem exec_conversion_some {s : State} {i : Channel} {raw : BitVec 24} {o : ConversionOutcome} (hrunning : s.phase = .running)
    (h : s.front[i].convert s.setup.channels[i] raw.toInt = some o) (k : Fin 64) :
    exec (.conversion i k raw) s = .next (((s.reach (k.val * Config.conversionStep)).converted i o).latchFrom s) := by
  dsimp only [exec, execConversion]
  rw [atWork_running s _ hrunning]
  simp only [h]

theorem exec_conversion_none {s : State} {i : Channel} {raw : BitVec 24} (hrunning : s.phase = .running)
    (h : s.front[i].convert s.setup.channels[i] raw.toInt = none) (k : Fin 64) :
    exec (.conversion i k raw) s = .next (s.reach (k.val * Config.conversionStep)) := by
  dsimp only [exec, execConversion]
  rw [atWork_running s _ hrunning]
  simp only [h]

section
variable (s : State) (i : Channel) (o : ConversionOutcome)

theorem State.converted_front : (s.converted i o).front = setAt s.front i o.front := by
  unfold State.converted
  dsimp only
  repeat' split
  all_goals simp

theorem State.converted_dec :
    (s.converted i o).dec =
      match s.setup.stage with
      | some g => setAt s.dec i (s.dec[i].push g o.record)
      | none => s.dec := by
  unfold State.converted
  dsimp only
  cases s.setup.stage <;> dsimp only <;> split <;> simp

theorem State.converted_retention :
    (s.converted i o).retention = if o.rebiased = true then s.retention.keepBias i o.front.bias else s.retention := by
  unfold State.converted
  dsimp only
  repeat' split
  all_goals simp

theorem State.converted_raised :
    (s.converted i o).raised = s.raised ||| Condition.only .rebias o.rebiased ||| Condition.only .held o.held := by
  unfold State.converted
  dsimp only
  repeat' split
  all_goals rfl

theorem State.converted_notices :
    (s.converted i o).port.notices = s.port.notices ||| Condition.only .rebias o.rebiased ||| Condition.only .held o.held := by
  unfold State.converted
  dsimp only
  repeat' split
  all_goals rfl

theorem DecChannel.push_warming (d : DecChannel) (g : StageSettings) (r : Conversion) : (d.push g r).warming = d.warming := by
  unfold DecChannel.push
  dsimp only
  split_ifs
  all_goals rfl

theorem State.converted_dec_of_stage {g : StageSettings} (h : s.setup.stage = some g) :
    (s.converted i o).dec[i] = s.dec[i].push g o.record := by
  rw [State.converted_dec]
  simp only [h, setAt_self]

theorem State.converted_others {j : Channel} (h : j ≠ i) :
    (s.converted i o).front[j] = s.front[j] ∧ (s.converted i o).dec[j] = s.dec[j] := by
  rw [State.converted_front, State.converted_dec, setAt_ne _ _ _ _ h]
  refine ⟨rfl, ?_⟩
  split
  · rw [setAt_ne _ _ _ _ h]
  · rfl

theorem State.converted_warmingHolds : (s.converted i o).warmingHolds = s.warmingHolds := by
  have hall (j : Channel) : (s.converted i o).dec[j].warming = s.dec[j].warming := by
    by_cases hj : j = i
    · subst hj
      cases hstage : s.setup.stage with
      | some g => rw [s.converted_dec_of_stage j o hstage, DecChannel.push_warming]
      | none =>
        rw [State.converted_dec]
        simp only [hstage]
    · rw [(s.converted_others i o hj).2]
  exact congrArg anyChannel (funext hall)

end

/-! ### What a conversion raises -/

/-- A command after which no condition holds that did not hold before raises none. -/
theorem State.latchFrom_of_no_rise {after before : State} (hsaturated : after.saturatedHolds = true → before.saturatedHolds = true)
    (hwarming : after.warmingHolds = before.warmingHolds) (hcorr : after.corr = before.corr) (hsetup : after.setup = before.setup)
    (hevents : after.events = before.events) (hcheck : after.check = before.check) (hmember : after.member = before.member) :
    after.latchFrom before = after := by
  have hholding : after.holding &&& ~~~before.holding = 0#16 := by
    have hgliding : after.glidingHolds = before.glidingHolds := by rw [State.glidingHolds, hcorr]; rfl
    have hstale : after.staleTempHolds = before.staleTempHolds := by rw [State.staleTempHolds, hcorr]; rfl
    have hattended : after.attendedHolds = before.attendedHolds := by rw [State.attendedHolds, hsetup, hevents]; rfl
    have hlost : after.chainLostHolds = before.chainLostHolds := by rw [State.chainLostHolds, hmember]; rfl
    have hfault : after.setupFaultHolds = before.setupFaultHolds := by rw [State.setupFaultHolds, hsetup]; rfl
    rw [State.holding, State.holding, hwarming, hgliding, hstale, hattended, hcheck, hlost, hfault]
    revert hsaturated
    generalize after.saturatedHolds = saturated, before.saturatedHolds = saturatedBefore, before.warmingHolds = warming,
      before.glidingHolds = gliding, before.staleTempHolds = stale, before.attendedHolds = attended, before.check.drift = drift,
      before.chainLostHolds = lost, before.setupFaultHolds = fault
    revert saturated saturatedBefore warming gliding stale attended drift lost fault
    decide
  simp [State.latchFrom, hholding, State.rise, State.setRaised, State.setPort]

/-- SATURATED and the unused places of the conditions that hold, by their bits. -/
theorem State.holding_saturated_bits (s : State) :
    s.holding.getLsbD 4 = s.saturatedHolds ∧ s.holding.getLsbD 5 = false := by
  unfold State.holding
  generalize s.saturatedHolds = saturated, s.warmingHolds = warming, s.glidingHolds = gliding, s.staleTempHolds = stale,
    s.attendedHolds = attended, s.check.drift = drift, s.chainLostHolds = lost, s.setupFaultHolds = fault
  revert saturated warming gliding stale attended drift lost fault
  decide

/-- A latch never raises HELD. -/
theorem State.latchFrom_raised_held (after before : State) : (after.latchFrom before).raised.getLsbD 5 = after.raised.getLsbD 5 := by
  rw [State.latchFrom_raised, BitVec.getLsbD_or, BitVec.getLsbD_and, after.holding_saturated_bits.2, Bool.false_and, Bool.or_false]

theorem State.saturatedHolds_iff (s : State) : s.saturatedHolds = true ↔ ∃ i : Channel, s.front[i].saturated = true :=
  anyChannel_eq_true_iff

/-- A conversion that saturates no channel raises nothing but REBIAS and HELD. -/
theorem State.converted_latchFrom {s : State} {i : Channel} {o : ConversionOutcome} (tick : Nat)
    (h : o.front.saturated = true → s.front[i].saturated = true) :
    (((s.reach tick).converted i o).latchFrom s) = (s.reach tick).converted i o := by
  refine State.latchFrom_of_no_rise (fun hafter => ?_) (State.converted_warmingHolds _ _ _) ?_ ?_ ?_ ?_ ?_
  · obtain ⟨j, hj⟩ := (State.saturatedHolds_iff _).mp hafter
    refine (State.saturatedHolds_iff _).mpr ⟨j, ?_⟩
    by_cases hji : j = i
    · subst hji
      rw [State.converted_front, setAt_self] at hj
      exact h hj
    · rw [(State.converted_others _ _ _ hji).1] at hj
      exact hj
  all_goals simp [State.reach]

theorem exec_conversion_latched {s : State} {i : Channel} {raw : BitVec 24} {o : ConversionOutcome} (hrunning : s.phase = .running)
    (h : s.front[i].convert s.setup.channels[i] raw.toInt = some o) (k : Fin 64)
    (hsaturated : o.front.saturated = true → s.front[i].saturated = true) :
    exec (.conversion i k raw) s = .next ((s.reach (k.val * Config.conversionStep)).converted i o) :=
  (exec_conversion_some hrunning h k).trans (congrArg _ (State.converted_latchFrom _ hsaturated))

/-! ### What a conversion makes of a front-end (R104 to R110, R113) -/

section
variable (f : FrontEnd) {c : ChannelSetup} (raw : Int)

theorem FrontEnd.convert_vector (h : c.kind.isVector = true) :
    f.convert c raw = some ({ f with lastRaw := some raw }.vectorConversion c raw) := by
  unfold FrontEnd.convert
  cases hkind : c.kind with
  | fieldX | fieldY | fieldZ => rfl
  | fieldF | temp | off => exact absurd ((congrArg ChannelKind.isVector hkind).symm.trans h) Bool.false_ne_true

theorem FrontEnd.convert_fieldF (h : c.kind = .fieldF) :
    f.convert c raw = some ({ f with lastRaw := some raw }.plainConversion (scalarRecord c raw)) := by
  unfold FrontEnd.convert
  rw [h]

theorem FrontEnd.convert_temp (h : c.kind = .temp) :
    f.convert c raw = some ({ f with lastRaw := some raw }.plainConversion (temperatureRecord c raw)) := by
  unfold FrontEnd.convert
  rw [h]

theorem FrontEnd.convert_off (h : c.kind = .off) : f.convert c raw = none := by
  unfold FrontEnd.convert
  rw [h]

theorem FrontEnd.vectorConversion_settling (c : ChannelSetup) (h : 0 < f.settle) : f.vectorConversion c raw = f.settleConversion :=
  if_pos h

/-- The front-end after a conversion outside a settle, before a rebias or a saturation. -/
def FrontEnd.measured (f : FrontEnd) (c : ChannelSetup) (raw : Int) : FrontEnd :=
  { (f.run (beyond c.threshold raw)).range (beyond c.threshold raw) with last := some (vectorRecord c f.bias raw) }

section
variable {f raw} (hsettle : f.settle = 0)
include hsettle

theorem FrontEnd.vectorConversion_within (h : (f.run (beyond c.threshold raw)).runCount < 16) : f.vectorConversion c raw =
    { front := f.measured c raw, record := vectorRecord c f.bias raw, rebiased := false, held := false } :=
  (if_neg (by omega)).trans (if_neg (Nat.not_le.mpr h))

theorem FrontEnd.vectorConversion_rebias (h : 16 ≤ (f.run (beyond c.threshold raw)).runCount)
    (hroom : (f.measured c raw).room (beyond c.threshold raw) = true) : f.vectorConversion c raw =
    { front := (f.measured c raw).rebias (beyond c.threshold raw) (vectorRecord c f.bias raw)
      record := vectorRecord c f.bias raw, rebiased := true, held := false } :=
  (if_neg (by omega)).trans ((if_pos h).trans (if_pos hroom))

theorem FrontEnd.vectorConversion_saturate (h : 16 ≤ (f.run (beyond c.threshold raw)).runCount)
    (hroom : ¬ (f.measured c raw).room (beyond c.threshold raw) = true) : f.vectorConversion c raw =
    { front := (f.measured c raw).saturate, record := vectorRecord c f.bias raw, rebiased := false, held := false } :=
  (if_neg (by omega)).trans ((if_pos h).trans (if_neg hroom))

end

end

theorem atFullScale_eq (raw : Int) : atFullScale raw = decide (8388607 ≤ raw ∨ raw ≤ -8388607) := (Bool.decide_or _ _).symm

theorem vectorRecord_marks (c : ChannelSetup) (bias raw : Int) : (vectorRecord c bias raw).marks =
    { fault := false, clipped := decide (8388607 ≤ raw ∨ raw ≤ -8388607), held := false } := by
  rw [← atFullScale_eq]
  rfl


theorem temperatureRecord_marks (c : ChannelSetup) (raw : Int) : (temperatureRecord c raw).marks =
    { fault := decide (8388607 ≤ raw ∨ raw ≤ -8388607 ∨ computedTemperature c raw < -60000 ∨ 80000 < computedTemperature c raw)
      clipped := false, held := false } := by
  have hfault : (atFullScale raw || decide (computedTemperature c raw < -60000) || decide (80000 < computedTemperature c raw)) =
      decide (8388607 ≤ raw ∨ raw ≤ -8388607 ∨ computedTemperature c raw < -60000 ∨ 80000 < computedTemperature c raw) := by
    simp only [atFullScale, Bool.decide_or, Bool.or_assoc]
  exact congrArg (fun fault => ({ fault := fault, clipped := false, held := false } : Markings)) hfault

theorem FrontEnd.measured_eq {f : FrontEnd} {c : ChannelSetup} {raw : Int} {sign : RunSign} (hsign : sign = beyond c.threshold raw) :
    f.measured c raw = { f with
      runSign := sign
      runCount := if sign = .none then 0 else if f.runSign = sign then f.runCount + 1 else 1
      inRange := if sign = .none then min (f.inRange + 1) 64 else 0
      saturated := f.saturated && !(decide (sign = .none) && decide (63 ≤ f.inRange))
      last := some (vectorRecord c f.bias raw) } := by
  have hcount : FrontEnd.range.countTo64 f.inRange = min (f.inRange + 1) 64 := by
    unfold FrontEnd.range.countTo64
    split <;> omega
  have hkept : decide ((if sign = .none then min (f.inRange + 1) 64 else 0) < 64) =
      !(decide (sign = .none) && decide (63 ≤ f.inRange)) := by
    by_cases hnone : sign = .none
    · rw [if_pos hnone, decide_eq_true hnone, Bool.true_and, ← decide_not]
      exact decide_eq_decide.mpr (by omega)
    · rw [if_neg hnone, decide_eq_false hnone]
      rfl
  rw [FrontEnd.measured, ← hsign, ← hkept]
  simp only [FrontEnd.range, FrontEnd.run, hcount]

/-- Settles O34: a conversion outside a settle hands its record to the decimator and moves the run and the in-range count. -/
theorem conversionGivesChannelValue : Obligations.ConversionGivesChannelValue := by
  intro s i k raw g hrunning hstage
  refine ⟨fun sign hvector hsettle hsign hshort => ?_, fun hkind => ?_, fun hkind => ?_, fun hkind => ?_⟩
  · have hbeyond : sign = beyond s.setup.channels[i].threshold raw.toInt := hsign
    have hcount : (({ s.front[i] with lastRaw := some raw.toInt } : FrontEnd).run sign).runCount < 16 := by
      change (if sign = .none then 0 else if s.front[i].runSign = sign then s.front[i].runCount + 1 else 1) < 16
      split_ifs with hnone hsame
      · omega
      · have := (hshort.resolve_right (not_or.mpr ⟨hnone, not_not.mpr hsame⟩))
        omega
      · omega
    have hconvert := (s.front[i].convert_vector raw.toInt hvector).trans
      (congrArg some (FrontEnd.vectorConversion_within (c := s.setup.channels[i]) hsettle (hbeyond ▸ hcount)))
    refine ⟨_, vectorRecord s.setup.channels[i] s.front[i].bias raw.toInt, exec_conversion_latched hrunning hconvert k Bool.and_elim_left,
      State.converted_dec_of_stage _ _ _ hstage, rfl, vectorRecord_marks _ _ _, ?_, State.converted_retention _ _ _, ?_,
      State.converted_tb _ _ _, fun j hj => State.converted_others _ _ _ hj⟩
    · rw [State.converted_front, setAt_self]
      exact FrontEnd.measured_eq hbeyond
    · rw [State.converted_raised]
      exact BitVec.or_zero.trans BitVec.or_zero
  · have hconvert := s.front[i].convert_fieldF raw.toInt hkind
    refine ⟨_, scalarRecord s.setup.channels[i] raw.toInt, exec_conversion_latched hrunning hconvert k id, ?_,
      State.converted_dec_of_stage _ _ _ hstage, rfl, ?_⟩
    · rw [State.converted_front, setAt_self]
      rfl
    · rw [← atFullScale_eq]
      rfl
  · have hconvert := s.front[i].convert_temp raw.toInt hkind
    refine ⟨_, temperatureRecord s.setup.channels[i] raw.toInt, computedTemperature s.setup.channels[i] raw.toInt,
      exec_conversion_latched hrunning hconvert k id, ?_, State.converted_dec_of_stage _ _ _ hstage, rfl,
      clampInt_eq _ _ _ (by decide), ?_⟩
    · rw [State.converted_front, setAt_self]
      rfl
    · exact temperatureRecord_marks _ _
  · exact exec_conversion_none hrunning (s.front[i].convert_off raw.toInt hkind) k

end Sys2Proof.Machine
end

section
/-! SUPPORT. Runs, rebias, saturation and settle of a vector channel (R106 to R111). -/

namespace Sys2Proof.Machine

/-- The sign of a run upwards or downwards. -/
def runSignOf (up : Bool) : RunSign := if up then .positive else .negative

theorem beyond_of_exceeds {threshold : Nat} {raw : Int} {up : Bool}
    (h : if up then (threshold : Int) < raw else raw < -(threshold : Int)) : beyond threshold raw = runSignOf up := by
  unfold beyond
  cases up with
  | true => exact if_pos h
  | false =>
    have hbelow : raw < -(threshold : Int) := h
    exact (if_neg (by omega)).trans (if_pos hbelow)

theorem runSignOf_ne_none (up : Bool) : runSignOf up ≠ .none := by cases up <;> decide

theorem FrontEnd.room_runSignOf (f : FrontEnd) (up : Bool) :
    f.room (runSignOf up) = true ↔ if up then f.bias < 15 else -15 < f.bias := by
  cases up with
  | true => exact decide_eq_true_iff
  | false => exact decide_eq_true_iff

theorem FrontEnd.rebias_runSignOf_bias (f : FrontEnd) (up : Bool) (record : Conversion) :
    (f.rebias (runSignOf up) record).bias = if up then f.bias + 1 else f.bias - 1 := by
  cases up <;> rfl

theorem State.biasOutput_running {s : State} {i : Channel} (hrunning : s.phase = .running)
    (hvector : s.setup.channels[i].kind.isVector = true) : s.biasOutput i = s.front[i].bias * s.setup.channels[i].biasUnit := by
  have hrun : s.running = true := by simp [State.running, hrunning]
  rw [State.biasOutput, hrun, hvector]
  rfl

/-- The sixteenth conversion in a run completes it. -/
theorem FrontEnd.run_completes {f : FrontEnd} {up : Bool} (hcount : f.runCount = 15) (hsign : f.runSign = runSignOf up) :
    16 ≤ (f.run (runSignOf up)).runCount := by
  change 16 ≤ if runSignOf up = .none then 0 else if f.runSign = runSignOf up then f.runCount + 1 else 1
  rw [if_neg (runSignOf_ne_none up), if_pos hsign, hcount]

/-- A conversion beyond the threshold empties the in-range count and leaves saturation as it is. -/
theorem FrontEnd.measured_of_exceeds {f : FrontEnd} {c : ChannelSetup} {raw : Int} {up : Bool}
    (h : runSignOf up = beyond c.threshold raw) : (f.measured c raw).inRange = 0 ∧ (f.measured c raw).saturated = f.saturated := by
  rw [FrontEnd.measured_eq h]
  simp only [if_neg (runSignOf_ne_none up), decide_eq_false (runSignOf_ne_none up), Bool.false_and, Bool.not_false, Bool.and_true,
    and_self]

theorem vectorRecord_eq (c : ChannelSetup) (bias raw : Int) : vectorRecord c bias raw =
    { value := raw * c.weight + bias * c.biasUnit
      marks := { fault := false, clipped := decide (8388607 ≤ raw ∨ raw ≤ -8388607), held := false } } :=
  congrArg (Conversion.mk (raw * c.weight + bias * c.biasUnit)) (vectorRecord_marks c bias raw)

/-- What a conversion that completes a run leaves, whether the channel rebiases or saturates. -/
structure RunEnds (f : FrontEnd) (c : ChannelSetup) (raw : Int) (o : ConversionOutcome) : Prop where
  record : o.record = vectorRecord c f.bias raw
  runSign : o.front.runSign = .none
  runCount : o.front.runCount = 0
  last : o.front.last = some o.record
  lastRaw : o.front.lastRaw = some raw
  inRange : o.front.inRange = 0
  held : o.held = false

theorem FrontEnd.convert_completes {f : FrontEnd} {c : ChannelSetup} {raw : Int} {up : Bool} (hvector : c.kind.isVector = true)
    (hsettle : f.settle = 0) (hcount : f.runCount = 15) (hsign : f.runSign = runSignOf up)
    (hexceeds : if up then (c.threshold : Int) < raw else raw < -(c.threshold : Int)) :
    ∃ o, f.convert c raw = some o ∧ RunEnds f c raw o ∧
      ((if up then f.bias < 15 else -15 < f.bias) →
        o.rebiased = true ∧ o.front.bias = (if up then f.bias + 1 else f.bias - 1) ∧ o.front.settle = 4 ∧
          o.front.heldValue = o.record.value ∧ o.front.heldClipped = o.record.marks.clipped ∧ o.front.saturated = f.saturated) ∧
      (¬(if up then f.bias < 15 else -15 < f.bias) →
        o.rebiased = false ∧ o.front.bias = f.bias ∧ o.front.settle = 0 ∧ o.front.heldValue = f.heldValue ∧
          o.front.heldClipped = f.heldClipped ∧ o.front.saturated = true) := by
  have hbeyond : runSignOf up = beyond c.threshold raw := (beyond_of_exceeds hexceeds).symm
  have hrun : 16 ≤ (({ f with lastRaw := some raw } : FrontEnd).run (beyond c.threshold raw)).runCount :=
    hbeyond ▸ FrontEnd.run_completes hcount hsign
  obtain ⟨hrange, hsaturated⟩ := FrontEnd.measured_of_exceeds (f := { f with lastRaw := some raw }) hbeyond
  rw [FrontEnd.convert_vector f raw hvector]
  by_cases hroom : if up then f.bias < 15 else -15 < f.bias
  · rw [FrontEnd.vectorConversion_rebias (f := { f with lastRaw := some raw }) (c := c) hsettle hrun
      (hbeyond ▸ (FrontEnd.room_runSignOf _ up).mpr hroom), ← hbeyond]
    exact ⟨_, rfl, ⟨rfl, rfl, rfl, rfl, rfl, hrange, rfl⟩,
      fun _ => ⟨rfl, FrontEnd.rebias_runSignOf_bias _ _ _, rfl, rfl, rfl, hsaturated⟩, absurd hroom⟩
  · rw [FrontEnd.vectorConversion_saturate (f := { f with lastRaw := some raw }) (c := c) hsettle hrun
      (hbeyond ▸ fun h => hroom ((FrontEnd.room_runSignOf _ up).mp h))]
    exact ⟨_, rfl, ⟨rfl, rfl, rfl, rfl, rfl, rfl, rfl⟩, fun h => absurd h hroom, fun _ => ⟨rfl, rfl, hsettle, rfl, rfl, rfl⟩⟩

section
variable (s : State) (i : Channel) (tick : Nat) {o : ConversionOutcome}

theorem State.conversion_front : (((s.reach tick).converted i o).latchFrom s).front[i] = o.front := by
  rw [State.latchFrom_front, State.converted_front, setAt_self]

theorem State.conversion_tb :
    (((s.reach tick).converted i o).latchFrom s).tb = { s.tb with tick := max s.tb.tick tick } :=
  (State.latchFrom_tb _ _).trans (State.converted_tb _ _ _)

theorem State.conversion_dec {g : StageSettings} (h : s.setup.stage = some g) :
    (((s.reach tick).converted i o).latchFrom s).dec[i] = s.dec[i].push g o.record := by
  rw [State.latchFrom_dec]
  exact State.converted_dec_of_stage (s.reach tick) i o h

theorem State.conversion_others {j : Channel} (h : j ≠ i) :
    (((s.reach tick).converted i o).latchFrom s).front[j] = s.front[j] ∧
      (((s.reach tick).converted i o).latchFrom s).dec[j] = s.dec[j] := by
  rw [State.latchFrom_front, State.latchFrom_dec]
  exact State.converted_others _ _ _ h

theorem State.conversion_retention : (((s.reach tick).converted i o).latchFrom s).retention =
    if o.rebiased = true then s.retention.keepBias i o.front.bias else s.retention := by
  rw [State.latchFrom_retention, State.converted_retention]
  rfl

theorem State.conversion_biasOutput (hrunning : s.phase = .running) (hvector : s.setup.channels[i].kind.isVector = true) :
    (((s.reach tick).converted i o).latchFrom s).biasOutput i = o.front.bias * s.setup.channels[i].biasUnit := by
  have hphase : (((s.reach tick).converted i o).latchFrom s).phase = .running := by simpa [State.reach] using hrunning
  have hsetup : (((s.reach tick).converted i o).latchFrom s).setup = s.setup := by simp [State.reach]
  rw [State.biasOutput_running hphase (by rw [hsetup]; exact hvector), State.conversion_front, hsetup]

theorem State.conversion_held (h : o.held = false) :
    (((s.reach tick).converted i o).latchFrom s).raised.getLsbD 5 = s.raised.getLsbD 5 := by
  rw [State.latchFrom_raised_held, State.converted_raised, h, BitVec.getLsbD_or, BitVec.getLsbD_or]
  cases o.rebiased with
  | true => exact (Bool.or_false _).trans (Bool.or_false _)
  | false => exact (Bool.or_false _).trans (Bool.or_false _)

theorem State.conversion_rebias (h : o.rebiased = true) :
    (((s.reach tick).converted i o).latchFrom s).raised.getLsbD 3 = true ∧
      (((s.reach tick).converted i o).latchFrom s).port.notices.getLsbD 3 = true := by
  constructor
  · refine State.latchFrom_keeps _ _ _ ?_
    rw [State.converted_raised, h, BitVec.getLsbD_or, BitVec.getLsbD_or]
    exact Bool.or_eq_true_iff.mpr (Or.inl (Bool.or_true _))
  · refine State.latchFrom_notices_keeps _ _ _ ?_
    rw [State.converted_notices, h, BitVec.getLsbD_or, BitVec.getLsbD_or]
    exact Bool.or_eq_true_iff.mpr (Or.inl (Bool.or_true _))

end

/-- Settles O35: a completed run rebiases or saturates, and a settle holds the value. -/
theorem runRebiasesAndSettles : Obligations.RunRebiasesAndSettles := by
  refine ⟨fun s i k raw up hrunning hvector hsettle hcount hsign hexceeds => ?_, fun s i k raw hrunning hvector hsettle => ?_,
    fun s i hrunning => ⟨State.biasOutput_running hrunning, fun hvector => ?_⟩⟩
  · obtain ⟨o, hconvert, hends, hrebiases, hsaturates⟩ := FrontEnd.convert_completes hvector hsettle hcount hsign hexceeds
    have hfront := s.conversion_front i (k.val * Config.conversionStep) (o := o)
    refine ⟨_, o.record, exec_conversion_some hrunning hconvert k, ?_⟩
    rw [s.conversion_biasOutput i _ hrunning hvector, hfront, State.conversion_retention]
    refine ⟨hends.runSign, hends.runCount, hends.record.trans (vectorRecord_eq _ _ _), hends.last, hends.lastRaw, hends.inRange,
        fun g hstage => s.conversion_dec i _ hstage, s.conversion_held i _ hends.held, s.conversion_tb i _,
        fun j hj => s.conversion_others i _ hj, fun hroom => ?_, fun hroom => ?_⟩
    · obtain ⟨hrebiased, hbias, hsettleNow, hvalue, hclipped, hsaturated⟩ := hrebiases hroom
      obtain ⟨hraised, hnotices⟩ := s.conversion_rebias i (k.val * Config.conversionStep) hrebiased
      rw [if_pos hrebiased, hbias]
      exact ⟨rfl, hsettleNow, hvalue, hclipped, hsaturated, setAt_self _ _ _, rfl, rfl, hraised, hnotices, rfl⟩
    · obtain ⟨hrebiased, hbias, hsettleNow, hvalue, hclipped, hsaturated⟩ := hsaturates hroom
      have hholds : (((s.reach (k.val * Config.conversionStep)).converted i o).latchFrom s).saturatedHolds = true :=
        (State.saturatedHolds_iff _).mpr ⟨i, by rw [hfront, hsaturated]⟩
      rw [if_neg (by rw [hrebiased]; exact Bool.false_ne_true), hbias]
      refine ⟨rfl, hsettleNow, hsaturated, hvalue, hclipped, rfl, ?_, hholds, fun hbefore => ?_⟩
      · exact (State.biasOutput_running hrunning hvector).symm
      · exact State.latchFrom_rises ((State.holding_saturated_bits _).1.trans hholds)
          ((State.holding_saturated_bits _).1.trans hbefore)
  · have hconvert := (s.front[i].convert_vector raw.toInt hvector).trans
      (congrArg some (FrontEnd.vectorConversion_settling _ raw.toInt s.setup.channels[i] hsettle))
    refine ⟨_, _, exec_conversion_latched hrunning hconvert k id, rfl, ?_,
      fun g hstage => State.converted_dec_of_stage _ _ _ hstage, ?_, ?_, State.converted_retention _ _ _,
      fun j hj => State.converted_others _ _ _ hj⟩
    · rw [State.converted_front, setAt_self]
      rfl
    · rw [State.converted_raised]
      exact congrArg (· ||| 0x20#16) BitVec.or_zero
    · rw [State.converted_notices]
      exact congrArg (· ||| 0x20#16) BitVec.or_zero
  · rw [State.biasOutput, hvector, Bool.and_false]
    rfl

end Sys2Proof.Machine
end

section
/-! SUPPORT. The event inputs and stage 1 of the decimator (R115 to R117, R121 to R125). -/

namespace Sys2Proof.Machine

/-- Settles O36: a filtered level takes an input's assertion, and sets the edge-seen flag of a MARKER input. -/
theorem filteredLevelSetsMarker : Obligations.FilteredLevelSetsMarker := by
  intro s i high ⟨hrunning, hactive⟩
  have hact : s.active = true := by simp [State.active, State.running, hrunning, hactive]
  have hexec : exec (.filteredLevelChange i high) s =
      .next ((s.setPins { s.pins with eventHigh := setAt s.pins.eventHigh i high }).setEvents
        (s.events.level i s.setup.inputs[i] high)) := by
    dsimp only [exec, execFilteredLevelChange]
    rw [if_pos hact]
  have hlevel : assertedLevel s.setup.inputs[i] high = if s.setup.inputs[i].assertedLow then !high else high := by
    unfold assertedLevel
    cases s.setup.inputs[i].assertedLow <;> cases high <;> rfl
  have hfiltered : (s.events.level i s.setup.inputs[i] high).filtered[i] = assertedLevel s.setup.inputs[i] high := setAt_self _ _ _
  refine ⟨_, hexec, rfl, setAt_self _ _ _, hfiltered.trans hlevel, rfl,
    fun j hj => ⟨setAt_ne _ _ _ _ hj, setAt_ne _ _ _ _ hj⟩, rfl, ?_⟩
  rw [State.setEvents_events, hfiltered]
  simp only [EventInputs.level, Bool.or_eq_true, Bool.and_eq_true, decide_eq_true_iff, Bool.not_eq_true', and_assoc]
  exact or_congr_right (and_congr_right' and_comm)

/-! ### The worst of several markings (R124) -/

theorem Mark.worse_eq_fault (a b : Mark) : a.worse b = .fault ↔ a = .fault ∨ b = .fault := by
  cases a <;> cases b <;> decide

theorem Mark.worse_eq_clipped (a b : Mark) :
    a.worse b = .clipped ↔ (a ≠ .fault ∧ b ≠ .fault) ∧ (a = .clipped ∨ b = .clipped) := by
  cases a <;> cases b <;> decide

theorem Mark.worse_eq_held (a b : Mark) :
    a.worse b = .held ↔ ((a = .none ∨ a = .held) ∧ (b = .none ∨ b = .held)) ∧ (a = .held ∨ b = .held) := by
  cases a <;> cases b <;> decide

theorem Mark.worse_eq_none (a b : Mark) : a.worse b = .none ↔ a = .none ∧ b = .none := by
  cases a <;> cases b <;> decide

theorem foldl_worse_eq_fault (marks : List Mark) (a : Mark) : marks.foldl Mark.worse a = .fault ↔ a = .fault ∨ .fault ∈ marks := by
  induction marks generalizing a with
  | nil => simp
  | cons m rest ih => rw [List.foldl_cons, ih, Mark.worse_eq_fault, List.mem_cons, or_assoc, eq_comm (a := m)]

theorem foldl_worse_eq_clipped (marks : List Mark) (a : Mark) : marks.foldl Mark.worse a = .clipped ↔
    (a ≠ .fault ∧ ∀ m ∈ marks, m ≠ .fault) ∧ (a = .clipped ∨ .clipped ∈ marks) := by
  induction marks generalizing a with
  | nil =>
    cases a <;> simp
  | cons m rest ih =>
    rw [List.foldl_cons, ih, Mark.worse_eq_clipped, List.forall_mem_cons, List.mem_cons, ne_eq, Mark.worse_eq_fault, eq_comm (a := m)]
    tauto

theorem foldl_worse_eq_held (marks : List Mark) (a : Mark) : marks.foldl Mark.worse a = .held ↔
    ((a = .none ∨ a = .held) ∧ ∀ m ∈ marks, m = .none ∨ m = .held) ∧ (a = .held ∨ .held ∈ marks) := by
  induction marks generalizing a with
  | nil =>
    cases a <;> simp
  | cons m rest ih =>
    rw [List.foldl_cons, ih, Mark.worse_eq_held, Mark.worse_eq_none, List.forall_mem_cons, List.mem_cons, eq_comm (a := m)]
    tauto

theorem worstMark_eq_fault (marks : List Mark) : worstMark marks = .fault ↔ .fault ∈ marks := by
  rw [worstMark, foldl_worse_eq_fault, or_iff_right (by decide)]

theorem worstMark_eq_clipped (marks : List Mark) : worstMark marks = .clipped ↔ (∀ m ∈ marks, m ≠ .fault) ∧ .clipped ∈ marks := by
  rw [worstMark, foldl_worse_eq_clipped, or_iff_right Mark.noConfusion, and_iff_right (show Mark.none ≠ .fault from Mark.noConfusion)]

theorem worstMark_eq_held (marks : List Mark) :
    worstMark marks = .held ↔ (∀ m ∈ marks, m = .none ∨ m = .held) ∧ .held ∈ marks := by
  rw [worstMark, foldl_worse_eq_held, and_iff_right (Or.inl rfl), or_iff_right (show Mark.none ≠ .held from Mark.noConfusion)]

theorem Markings.mark_eq_fault (m : Markings) : m.mark = .fault ↔ m.fault = true := by
  obtain ⟨fault, clipped, held⟩ := m
  cases fault <;> cases clipped <;> cases held <;> decide

theorem Markings.mark_eq_clipped (m : Markings) : m.mark = .clipped ↔ m.fault = false ∧ m.clipped = true := by
  obtain ⟨fault, clipped, held⟩ := m
  cases fault <;> cases clipped <;> cases held <;> decide

theorem Markings.mark_eq_held (m : Markings) : m.mark = .held ↔ (m.fault = false ∧ m.clipped = false) ∧ m.held = true := by
  obtain ⟨fault, clipped, held⟩ := m
  cases fault <;> cases clipped <;> cases held <;> decide

theorem Markings.mark_le_held (m : Markings) : (m.mark = .none ∨ m.mark = .held) ↔ m.fault = false ∧ m.clipped = false := by
  obtain ⟨fault, clipped, held⟩ := m
  cases fault <;> cases clipped <;> cases held <;> decide

/-- The worst marking of a window of conversions, by their marking sets. -/
theorem worstMark_of_conversions (window : List Conversion) :
    (worstMark (window.map fun r => r.marks.mark) = .fault ↔ ∃ c ∈ window, c.marks.fault = true) ∧
      (worstMark (window.map fun r => r.marks.mark) = .clipped ↔
        (∀ c ∈ window, c.marks.fault = false) ∧ ∃ c ∈ window, c.marks.clipped = true) ∧
      (worstMark (window.map fun r => r.marks.mark) = .held ↔
        (∀ c ∈ window, c.marks.fault = false ∧ c.marks.clipped = false) ∧ ∃ c ∈ window, c.marks.held = true) := by
  refine ⟨?_, ?_, ?_⟩
  · rw [worstMark_eq_fault, List.mem_map]
    simp only [Markings.mark_eq_fault]
  · rw [worstMark_eq_clipped, List.mem_map, List.forall_mem_map]
    simp only [ne_eq, Markings.mark_eq_fault, Markings.mark_eq_clipped, Bool.not_eq_true]
    exact and_congr_right fun hall => exists_congr fun c => and_congr_right fun hc => and_iff_right (hall c hc)
  · rw [worstMark_eq_held, List.mem_map, List.forall_mem_map]
    simp only [Markings.mark_le_held]
    simp only [Markings.mark_eq_held]
    exact and_congr_right fun hall => exists_congr fun c => and_congr_right fun hc => and_iff_right (hall c hc)

/-! ### Windows and sums (R121 to R123, R125, R126) -/

/-- A weighted sum, written by the places of its window. -/
theorem weightedSum_eq {n : Nat} {coefficients values : List Int} (hcoefficients : coefficients.length = n) (hvalues : values.length = n) :
    weightedSum coefficients values = ((List.range n).map fun j => coefficients.getD j 0 * values.getD j 0).sum := by
  have hterms : List.zipWith (· * ·) coefficients values = (List.range n).map fun j => coefficients.getD j 0 * values.getD j 0 := by
    refine List.ext_getElem (by simp [hcoefficients, hvalues]) fun j hj _ => ?_
    simp only [List.length_zipWith, hcoefficients, hvalues, Nat.min_self] at hj
    rw [List.getElem_zipWith, List.getElem_map, List.getElem_range, List.getD_eq_getElem _ _ (by omega),
      List.getD_eq_getElem _ _ (by omega)]
  rw [weightedSum, hterms]

/-- The newest values of a window of `m + n`, written by their places. -/
theorem drop_eq_map_range {m n : Nat} {values : List Int} (h : values.length = m + n) :
    values.drop m = (List.range n).map fun j => values.getD (j + m) 0 := by
  refine List.ext_getElem (by simp [h]) fun j hj _ => ?_
  simp only [List.length_drop, h] at hj
  rw [List.getElem_drop, List.getElem_map, List.getElem_range, List.getD_eq_getElem _ _ (by omega)]
  exact getElem_congr_idx (Nat.add_comm _ _)

theorem pushWindow_eq {α : Type} {n : Nat} {window : List α} (x : α) :
    pushWindow n window x = (if n ≤ window.length then window.tail else window) ++ [x] := by
  rw [pushWindow, List.drop_one]

section
variable (d : DecChannel) (g : StageSettings) (r : Conversion)

theorem DecChannel.push_between (h : d.stage1Count < 7) :
    d.push g r = { d with stage1 := pushWindow 16 d.stage1 r, stage1Count := d.stage1Count + 1 } :=
  if_pos (Nat.succ_lt_succ h)

theorem DecChannel.push_output (h : d.stage1Count = 7) : d.push g r =
    { d with
      stage1 := pushWindow 16 d.stage1 r, stage1Count := 0
      stage2 := if 16 ≤ (pushWindow 16 d.stage1 r).length then pushWindow 32 d.stage2 (stage1Output g (pushWindow 16 d.stage1 r))
        else d.stage2 } :=
  if_neg (by omega)

end

/-- A stage-1 output is the weighted sum or the mean of its window, with the worst marking of the values taken. -/
theorem stage1Output_spec {g : StageSettings} {window : List Conversion} (htable : g.table1.length = 16) (hwindow : window.length = 16) :
    (g.mean = false → (stage1Output g window).value =
        (((List.range 16).map fun j => g.table1.getD j 0 * (window.map Conversion.value).getD j 0).sum).tdiv 65536) ∧
      (g.mean = true → (stage1Output g window).value =
        (((List.range 8).map fun j => (window.map Conversion.value).getD (j + 8) 0).sum).tdiv 8) ∧
      (stage1Output g window).mark = worstMark ((if g.mean then window.drop 8 else window).map fun r => r.marks.mark) := by
  have hvalues : (window.map Conversion.value).length = 16 := (List.length_map _).trans hwindow
  cases hmean : g.mean with
  | true =>
    have houtput : stage1Output g window = { value := (((window.drop 8).map Conversion.value).sum).tdiv 8
                                             mark := worstMark ((window.drop 8).map fun r => r.marks.mark) } := if_pos hmean
    refine ⟨nofun, fun _ => ?_, congrArg StageOutput.mark houtput⟩
    rw [houtput, List.map_drop, drop_eq_map_range (m := 8) (n := 8) hvalues]
  | false =>
    have houtput : stage1Output g window = { value := (weightedSum g.table1 (window.map Conversion.value)).tdiv 65536
                                             mark := worstMark (window.map fun r => r.marks.mark) } :=
      if_neg (Bool.not_eq_true _ ▸ hmean)
    refine ⟨fun _ => ?_, nofun, congrArg StageOutput.mark houtput⟩
    rw [houtput, weightedSum_eq htable hvalues]

/-- Settles O37: a conversion joins stage 1, and every eighth yields an output of a full window. -/
theorem stageOneYieldsOutputs : Obligations.StageOneYieldsOutputs := by
  intro d g r hlength hcount htable
  have hwindow : pushWindow 16 d.stage1 r = (if d.stage1.length = 16 then d.stage1.tail else d.stage1) ++ [r] := by
    rw [pushWindow_eq]
    exact congrArg (· ++ [r]) (if_congr (by omega) rfl rfl)
  dsimp only
  rw [← hwindow]
  rcases Nat.lt_or_ge d.stage1Count 7 with hbetween | hlast
  · rw [DecChannel.push_between d g r hbetween]
    exact ⟨rfl, rfl, rfl, fun _ => ⟨rfl, rfl⟩, fun h => absurd h (by omega)⟩
  · rw [DecChannel.push_output d g r (by omega)]
    refine ⟨rfl, rfl, rfl, fun h => absurd h (by omega), fun _ => ⟨rfl, fun hshort => if_neg (by omega), fun hfull => ?_⟩⟩
    obtain ⟨hweighted, hmean, hmark⟩ := stage1Output_spec (g := g) htable hfull
    refine ⟨stage1Output g (pushWindow 16 d.stage1 r), ?_, hweighted, hmean, ?_⟩
    · exact (if_pos (by omega)).trans (pushWindow_eq _)
    · rw [hmark]
      exact worstMark_of_conversions _

end Sys2Proof.Machine
end

section
/-! SUPPORT. Epoch values and the flush of the channels at an own boundary (R112, R126, R128, R129). -/

namespace Sys2Proof.Machine

/-! ### A channel's decimator at a boundary -/

section
variable {d : DecChannel} {kind : ChannelKind} {g : StageSettings} (hkind : kind ≠ .off) (epoch : EpochNumber)
include hkind

theorem DecChannel.boundary_flush (stage : Option StageSettings) : d.boundary kind stage true epoch = d.flush :=
  (if_neg hkind).trans (if_pos rfl)

theorem DecChannel.boundary_produce : d.boundary kind (some g) false epoch = d.produce g epoch :=
  (if_neg hkind).trans (if_neg Bool.false_ne_true)

end

/-- A full stage-2 window gives the epoch value: its weighted sum and its worst marking. -/
theorem DecChannel.epochValue_full {d : DecChannel} {g : StageSettings} (epoch : EpochNumber) (hfull : d.stage2.length = 32)
    (htable : g.table2.length = 32) : ∃ v, d.epochValue g epoch = some v ∧ v.attributed = epoch - 2 ∧
      v.value = (((List.range 32).map fun j => g.table2.getD j 0 * (d.stage2.map StageOutput.value).getD j 0).sum).tdiv 65536 ∧
      v.mark = worstMark (d.stage2.map StageOutput.mark) := by
  refine ⟨_, if_pos (by omega), rfl, ?_, rfl⟩
  rw [weightedSum_eq htable ((List.length_map _).trans hfull)]

theorem DecChannel.epochValue_short {d : DecChannel} (g : StageSettings) (epoch : EpochNumber) (h : d.stage2.length < 32) :
    d.epochValue g epoch = none :=
  if_neg (by omega)

/-- The worst marking of a window of stage-1 outputs. -/
theorem worstMark_of_outputs (outputs : List StageOutput) :
    (worstMark (outputs.map StageOutput.mark) = .fault ↔ ∃ x ∈ outputs, x.mark = .fault) ∧
      (worstMark (outputs.map StageOutput.mark) = .clipped ↔
        (∀ x ∈ outputs, x.mark ≠ .fault) ∧ ∃ x ∈ outputs, x.mark = .clipped) ∧
      (worstMark (outputs.map StageOutput.mark) = .held ↔
        (∀ x ∈ outputs, x.mark = .none ∨ x.mark = .held) ∧ ∃ x ∈ outputs, x.mark = .held) := by
  rw [worstMark_eq_fault, worstMark_eq_clipped, worstMark_eq_held, List.mem_map, List.mem_map, List.mem_map, List.forall_mem_map,
    List.forall_mem_map]
  exact ⟨Iff.rfl, Iff.rfl, Iff.rfl⟩

/-! ### The station at an own boundary -/

section
variable (s : State) (temp : Int) (i : Channel)

theorem State.countedBoundary_dec_get : (s.countedBoundary temp).dec[i] =
    s.dec[i].boundary s.setup.channels[i].kind s.setup.stage s.restartPending (s.countedBoundary temp).tb.epochNumber := by
  rw [State.countedBoundary_tb]
  unfold State.countedBoundary
  rw [State.blocksAtBoundary_dec_eq, mapAllIdx_get]
  rfl

theorem State.countedBoundary_restartPending : (s.countedBoundary temp).restartPending = false :=
  State.blocksAtBoundary_restartPending_eq _ _ _

theorem State.countedBoundary_front_get (h : s.restartPending = true) : (s.countedBoundary temp).front[i] = s.front[i].flush := by
  unfold State.countedBoundary
  dsimp only
  rw [State.blocksAtBoundary_front_eq, if_pos h, mapAll_get]
  rfl

theorem State.countedBoundary_corr_get (h : (s.countedBoundary temp).dec[i].value = none) :
    (s.countedBoundary temp).corr[i] = { s.corr[i] with corrected := none } := by
  unfold State.countedBoundary at h ⊢
  dsimp only at h ⊢
  rw [State.blocksAtBoundary_corr_get, h]
  rfl

end

/-- Settles O38: what an own boundary produces from a full window, a short one and a flush. -/
theorem boundaryProducesEpochValues : Obligations.BoundaryProducesEpochValues := by
  intro s temp i g hrunning hstage hkind
  have hdec := s.countedBoundary_dec_get temp i
  rw [hstage] at hdec
  have hproduce (hpending : s.restartPending = false) :
      (s.countedBoundary temp).dec[i] = s.dec[i].produce g (s.countedBoundary temp).tb.epochNumber := by
    rw [hdec, hpending, DecChannel.boundary_produce hkind]
  have hflush (hpending : s.restartPending = true) : (s.countedBoundary temp).dec[i] = s.dec[i].flush := by
    rw [hdec, hpending, DecChannel.boundary_flush hkind]
  refine ⟨_, exec_ownBoundary_running s temp hrunning, ?_⟩
  rw [State.latchFrom_restartPending, State.latchFrom_dec, State.latchFrom_tb, State.latchFrom_front, State.latchFrom_corr]
  refine ⟨s.countedBoundary_restartPending temp, fun hpending hfull htable => ?_, fun hpending hshort => ?_, fun hpending => ?_, ?_,
    fun hpending hbefore => ?_, fun hpending => ⟨hflush hpending, s.countedBoundary_front_get temp i hpending, ?_⟩⟩
  · obtain ⟨v, hvalue, hattributed, hfigure, hmark⟩ :=
      DecChannel.epochValue_full (d := s.dec[i]) (s.countedBoundary temp).tb.epochNumber hfull htable
    obtain ⟨hfault, hclipped, hheld⟩ := worstMark_of_outputs s.dec[i].stage2
    rw [hproduce hpending]
    exact ⟨v, hvalue, hattributed, hfigure, hmark ▸ hfault, hmark ▸ hclipped, hmark ▸ hheld, rfl, rfl⟩
  · rw [hproduce hpending]
    exact DecChannel.epochValue_short g _ hshort
  · rw [hproduce hpending]
    rfl
  · exact anyChannel_eq_true_iff
  · have hwarming : (s.countedBoundary temp).warmingHolds = true :=
      anyChannel_eq_true_iff.mpr ⟨i, congrArg DecChannel.warming (hflush hpending)⟩
    exact State.latchFrom_rises ((State.holding_bits _).1.trans hwarming) ((State.holding_bits _).1.trans hbefore)
  · exact s.countedBoundary_corr_get temp i (congrArg DecChannel.value (hflush hpending))

end Sys2Proof.Machine
end

section
/-! SUPPORT. Glides and the bin decision (R139 to R147). -/

namespace Sys2Proof.Machine

/-! ### Glides (R144) -/

/-- A value on the way from `a` to `b` lies between them. -/
theorem interpolate_between {a b x d : Int} (hx : 0 ≤ x) (hxd : x ≤ d) (hd : 0 < d) :
    min a b ≤ a + ((b - a) * x).tdiv d ∧ a + ((b - a) * x).tdiv d ≤ max a b := by
  have hzero : ((b - a) * 0).tdiv d = 0 := by simp
  have hend : ((b - a) * d).tdiv d = b - a := Int.mul_tdiv_cancel _ (by omega)
  have hmono {y z : Int} (h : (b - a) * y ≤ (b - a) * z) : ((b - a) * y).tdiv d ≤ ((b - a) * z).tdiv d := Int.tdiv_le_tdiv hd h
  rcases Int.le_total a b with hab | hab
  · have hlow := hmono (Int.mul_le_mul_of_nonneg_left hx (by omega))
    have hhigh := hmono (Int.mul_le_mul_of_nonneg_left hxd (by omega))
    omega
  · have hhigh := hmono (Int.mul_le_mul_of_nonpos_left (by omega) hx)
    have hlow := hmono (Int.mul_le_mul_of_nonpos_left (by omega) hxd)
    omega

/-- Settles O40: a running glide stays between its start and its target, and ends at the target. -/
theorem glideStaysBetweenStartAndTarget : Obligations.GlideStaysBetweenStartAndTarget := by
  intro g length hlow hhigh
  have hcounter : (0 : Int) ≤ g.counter ∧ (g.counter : Int) ≤ length ∧ (0 : Int) < length := by omega
  obtain ⟨hzero, hle, hpos⟩ := hcounter
  refine ⟨interpolate_between hzero hle hpos, interpolate_between hzero hle hpos, fun hend => ?_⟩
  unfold Glide.offsetAt Glide.scaleAt
  rw [hend, Int.mul_tdiv_cancel _ (by omega), Int.mul_tdiv_cancel _ (by omega)]
  omega

/-! ### The row that contains a temperature (R141) -/

/-- From a row on, the search ends in the last row whose edge the temperature reaches. -/
theorem containingFrom_spec (t : Int) (a : BinRow) (rest : List BinRow) (n : Nat) :
    ∃ r, containingFrom t n (a :: rest) = n + r ∧ r < (a :: rest).length ∧
      (∀ row, 0 < r → (a :: rest)[r]? = some row → row.edge ≤ t) ∧ ∀ row, (a :: rest)[r + 1]? = some row → t < row.edge := by
  induction rest generalizing a n with
  | nil => exact ⟨0, rfl, Nat.one_pos, fun _ h => absurd h (Nat.lt_irrefl 0), nofun⟩
  | cons b rest ih =>
    rw [containingFrom]
    split
    next hbelow =>
      refine ⟨0, rfl, Nat.succ_pos _, fun _ h => absurd h (Nat.lt_irrefl 0), fun row hrow => ?_⟩
      obtain rfl : b = row := Option.some.inj hrow
      exact hbelow
    next habove =>
      obtain ⟨r, hcontaining, hlength, hedge, hnext⟩ := ih b (n + 1)
      refine ⟨r + 1, by rw [hcontaining, Nat.add_assoc, Nat.add_comm 1 r], Nat.succ_lt_succ hlength, fun row _ hrow => ?_, hnext⟩
      rcases Nat.eq_zero_or_pos r with rfl | hpos
      · obtain rfl : b = row := Option.some.inj hrow
        omega
      · exact hedge row hpos hrow

theorem rowContaining_spec {rows : List BinRow} (t : Int) (h : rows ≠ []) :
    rowContaining rows t < rows.length ∧ (∀ row, 0 < rowContaining rows t → rows[rowContaining rows t]? = some row → row.edge ≤ t) ∧
      ∀ row, rows[rowContaining rows t + 1]? = some row → t < row.edge := by
  cases rows with
  | nil => exact absurd rfl h
  | cons a rest =>
    obtain ⟨r, hcontaining, hspec⟩ := containingFrom_spec t a rest 0
    have hr : rowContaining (a :: rest) t = r := hcontaining.trans (Nat.zero_add r)
    rw [hr]
    exact hspec

/-! ### The selection of a row (R141) -/

theorem selectRow_eq (c : ChannelSetup) (r : Nat) (t : Int) : selectRow c r t =
    if (∃ above, c.rows[r + 1]? = some above ∧ above.edge + c.hysteresis ≤ t) ∨ (0 < r ∧ t < (c.row r).edge - c.hysteresis) then
      rowContaining c.rows t
    else r := by
  unfold selectRow
  refine if_congr ?_ rfl rfl
  rw [Bool.or_eq_true, Bool.and_eq_true, decide_eq_true_iff, decide_eq_true_iff]
  refine or_congr_left ?_
  cases c.rows[r + 1]? with
  | none => simp
  | some above => simp

end Sys2Proof.Machine
end

section
/-! SUPPORT. The bin decision and the corrected value of a channel (R139 to R150). -/

namespace Sys2Proof.Machine

/-! ### Moving to a row (R143 to R146) -/

/-- The coefficients of a snapped channel move: on towards the row it has, or to another. -/
def CorrChannel.moveTo (x : CorrChannel) (c : ChannelSetup) (r : Nat) : CorrChannel :=
  if r = x.bin then x.advanceGlide c else x.changeBin c r

section
variable {x : CorrChannel} {c : ChannelSetup} {r : Nat}

theorem CorrChannel.advanceGlide_resting (h : x.glide = none) : x.advanceGlide c = x := by
  rw [CorrChannel.advanceGlide]
  simp only [h]

theorem CorrChannel.advanceGlide_stepping (h : c.glideLength = none) : x.advanceGlide c = x := by
  rw [CorrChannel.advanceGlide]
  cases x.glide <;> simp only [h]

theorem CorrChannel.advanceGlide_gliding {g : Glide} {n : Nat} (hglide : x.glide = some g) (hlength : c.glideLength = some n) :
    x.advanceGlide c = x.applyGlide { g with counter := g.counter + 1 } n := by
  rw [CorrChannel.advanceGlide]
  simp only [hglide, hlength]

theorem CorrChannel.changeBin_step (h : c.glideLength = none) :
    x.changeBin c r = ({ x with bin := r } : CorrChannel).rest (c.row r) := by
  rw [CorrChannel.changeBin]
  simp only [h]

theorem CorrChannel.changeBin_glide {n : Nat} (h : c.glideLength = some n) :
    x.changeBin c r = ({ x with bin := r } : CorrChannel).applyGlide
      { startOffset := x.offset, startScale := x.scale, targetOffset := (c.row r).offset, targetScale := (c.row r).scale
        counter := 1 } n := by
  rw [CorrChannel.changeBin]
  simp only [h]

theorem CorrChannel.advanceGlide_keeps : (x.advanceGlide c).bin = x.bin ∧ (x.advanceGlide c).freeze = x.freeze := by
  cases hglide : x.glide with
  | none => rw [CorrChannel.advanceGlide_resting hglide]; exact ⟨rfl, rfl⟩
  | some g =>
    cases hlength : c.glideLength with
    | none => rw [CorrChannel.advanceGlide_stepping hlength]; exact ⟨rfl, rfl⟩
    | some n => rw [CorrChannel.advanceGlide_gliding hglide hlength]; exact ⟨rfl, rfl⟩

theorem CorrChannel.changeBin_keeps : (x.changeBin c r).bin = r ∧ (x.changeBin c r).freeze = x.freeze := by
  cases hlength : c.glideLength with
  | none => rw [CorrChannel.changeBin_step hlength]; exact ⟨rfl, rfl⟩
  | some n => rw [CorrChannel.changeBin_glide hlength]; exact ⟨rfl, rfl⟩

theorem CorrChannel.moveTo_keeps : (x.moveTo c r).bin = r ∧ (x.moveTo c r).freeze = x.freeze := by
  unfold CorrChannel.moveTo
  split
  next h => exact ⟨CorrChannel.advanceGlide_keeps.1.trans h.symm, CorrChannel.advanceGlide_keeps.2⟩
  next => exact CorrChannel.changeBin_keeps

theorem CorrChannel.moveTo_other (h : r ≠ x.bin) : x.moveTo c r = x.changeBin c r := if_neg h

theorem CorrChannel.moveTo_same : x.moveTo c x.bin = x.advanceGlide c := if_pos rfl

/-- A channel that has changed its row in STEP mode stands at the row. -/
theorem CorrChannel.moveTo_step (hbin : (x.moveTo c r).bin ≠ x.bin) (hlength : c.glideLength = none) :
    (x.moveTo c r).glide = none ∧ (x.moveTo c r).offset = (c.row (x.moveTo c r).bin).offset ∧
      (x.moveTo c r).scale = (c.row (x.moveTo c r).bin).scale := by
  rw [CorrChannel.moveTo_keeps.1] at hbin ⊢
  rw [CorrChannel.moveTo_other hbin, CorrChannel.changeBin_step hlength]
  exact ⟨rfl, rfl, rfl⟩

/-- A channel that has changed its row in GLIDE mode has taken the first value of a glide to the row. -/
theorem CorrChannel.moveTo_glide {n : Nat} (hn : 2 ≤ n) (hbin : (x.moveTo c r).bin ≠ x.bin) (hlength : c.glideLength = some n) :
    (x.moveTo c r).glide = some { startOffset := x.offset, startScale := x.scale
                                  targetOffset := (c.row (x.moveTo c r).bin).offset, targetScale := (c.row (x.moveTo c r).bin).scale
                                  counter := 1 } ∧
      (x.moveTo c r).offset = x.offset + ((c.row (x.moveTo c r).bin).offset - x.offset).tdiv n ∧
      (x.moveTo c r).scale = x.scale + ((c.row (x.moveTo c r).bin).scale - x.scale).tdiv n := by
  rw [CorrChannel.moveTo_keeps.1] at hbin ⊢
  rw [CorrChannel.moveTo_other hbin, CorrChannel.changeBin_glide hlength]
  refine ⟨if_pos hn, ?_, ?_⟩
  · exact congrArg (fun d : Int => x.offset + d.tdiv n) (Int.mul_one _)
  · exact congrArg (fun d : Int => x.scale + d.tdiv n) (Int.mul_one _)

theorem CorrChannel.moveTo_resting (hbin : (x.moveTo c r).bin = x.bin) (hglide : x.glide = none) :
    (x.moveTo c r).glide = none ∧ (x.moveTo c r).offset = x.offset ∧ (x.moveTo c r).scale = x.scale := by
  rw [CorrChannel.moveTo_keeps.1] at hbin
  rw [hbin, CorrChannel.moveTo_same, CorrChannel.advanceGlide_resting hglide]
  exact ⟨hglide, rfl, rfl⟩

theorem CorrChannel.moveTo_gliding {g : Glide} {n : Nat} (hbin : (x.moveTo c r).bin = x.bin) (hglide : x.glide = some g)
    (hlength : c.glideLength = some n) :
    (x.moveTo c r).offset = g.startOffset + ((g.targetOffset - g.startOffset) * (g.counter + 1)).tdiv n ∧
      (x.moveTo c r).scale = g.startScale + ((g.targetScale - g.startScale) * (g.counter + 1)).tdiv n ∧
      (x.moveTo c r).glide = if g.counter + 1 < n then some { g with counter := g.counter + 1 } else none := by
  rw [CorrChannel.moveTo_keeps.1] at hbin
  rw [hbin, CorrChannel.moveTo_same, CorrChannel.advanceGlide_gliding hglide hlength]
  exact ⟨rfl, rfl, rfl⟩

end

/-! ### The bin decision (R140 to R142) -/

theorem CorrChannel.decideBin_without_source {x : CorrChannel} {c : ChannelSetup} {temp : Option Int} {attended : Bool}
    (h : c.source = .none) : x.decideBin c temp attended = { channel := x, mark := .none } :=
  if_pos h

section
variable {x : CorrChannel} {c : ChannelSetup} {temp : Option Int} {attended : Bool} (hsource : c.source ≠ .none)
include hsource

theorem CorrChannel.decideBin_waiting (hsnapped : x.snapped = false) (h : temp = none ∨ attended = true) :
    x.decideBin c temp attended = { channel := x, mark := .uncorrected } := by
  unfold CorrChannel.decideBin
  rw [if_neg hsource, hsnapped]
  rcases h with rfl | rfl
  · rfl
  · cases temp <;> rfl

theorem CorrChannel.decideBin_snap (hsnapped : x.snapped = false) (t : Int) : x.decideBin c (some t) false =
    { channel := ({ x with bin := rowContaining c.rows t, snapped := true, freeze := .none } : CorrChannel).rest
        (c.row (rowContaining c.rows t))
      mark := .none } := by
  unfold CorrChannel.decideBin
  rw [if_neg hsource, hsnapped]
  rfl

/-- The decision of a snapped channel: which row it moves to, its freeze cause and the marking. -/
theorem CorrChannel.decideBin_snapped (hsnapped : x.snapped = true) :
    ∃ freeze r mark, x.decideBin c temp attended = { channel := ({ x with freeze := freeze } : CorrChannel).moveTo c r, mark := mark } ∧
      (temp = none → freeze = .stale ∧ r = x.bin ∧ mark = .staleTemp) ∧
      (∀ t, temp = some t → attended = true → freeze = .attended ∧ r = x.bin ∧ mark = .staleTemp) ∧
      (∀ t, temp = some t → attended = false → freeze = .none ∧ r = selectRow c x.bin t ∧ mark = .none) := by
  unfold CorrChannel.decideBin
  rw [if_neg hsource, if_neg (by rw [hsnapped]; exact Bool.false_ne_true)]
  cases temp with
  | none =>
    refine ⟨.stale, x.bin, .staleTemp, ?_, fun _ => ⟨rfl, rfl, rfl⟩, nofun, nofun⟩
    exact congrArg (Decision.mk · CorrMark.staleTemp) (CorrChannel.moveTo_same (x := { x with freeze := .stale })).symm
  | some t =>
    cases attended with
    | true =>
      refine ⟨.attended, x.bin, .staleTemp, ?_, nofun, fun _ _ _ => ⟨rfl, rfl, rfl⟩, nofun⟩
      exact congrArg (Decision.mk · CorrMark.staleTemp) (CorrChannel.moveTo_same (x := { x with freeze := .attended })).symm
    | false =>
      refine ⟨.none, selectRow c x.bin t, .none, rfl, nofun, nofun, fun u hu _ => ⟨rfl, ?_, rfl⟩⟩
      rw [Option.some.inj hu]

end

/-! ### The corrected value (R148 to R150) -/

section
variable (x : CorrChannel) {c : ChannelSetup} (v : EpochValue) (temp : Option Int) (attended : Bool)

theorem CorrChannel.boundary_field (h : c.kind.isField = true) : x.boundary c (some v) temp attended =
    { (x.decideBin c temp attended).channel with
      corrected := some { value := limit32 (correctedFigure c (x.decideBin c temp attended).channel v.value), mark := v.mark
                          corr := (x.decideBin c temp attended).mark } } := by
  unfold CorrChannel.boundary
  cases hkind : c.kind with
  | fieldX | fieldY | fieldZ | fieldF => rfl
  | temp | off => exact absurd ((congrArg ChannelKind.isField hkind).symm.trans h) Bool.false_ne_true

theorem CorrChannel.boundary_temp (h : c.kind = .temp) : x.boundary c (some v) temp attended =
    { x with corrected := some { value := limit32 v.value, mark := v.mark, corr := .none } } := by
  unfold CorrChannel.boundary
  simp only [h]

theorem limit32_eq (v : Int) : limit32 v = max (-2147483648) (min 2147483647 v) := clampInt_eq _ _ _ (by decide)

theorem correctedFigure_of_source (h : c.source ≠ .none) (v : Int) :
    correctedFigure c x v = ((v - x.offset) * (100000000 + x.scale)).tdiv 100000000 :=
  if_neg fun hnone => h hnone.2

theorem correctedFigure_without_source (h : c.source = .none) (v : Int) : correctedFigure c x v =
    if c.kind = .fieldF then v else ((v - x.offset) * (100000000 + x.scale)).tdiv 100000000 :=
  if_congr (and_iff_left h) rfl rfl

end

end Sys2Proof.Machine
end

section
/-! SUPPORT. The correction of the channels at an own boundary (R135 to R150). -/

namespace Sys2Proof.Machine

/-! ### The usable temperature (R135 to R138) -/

theorem localTemperature_eq_some (value : Option EpochValue) (v : Int) :
    localTemperature value = some v ↔ ∃ e, value = some e ∧ e.mark ≠ .fault ∧ e.value = v := by
  cases value with
  | none => simp [localTemperature]
  | some e => simp [localTemperature]

theorem valueAge_le_iff (limit : Nat) (epoch valueEpoch : EpochNumber) :
    ¬ limit < valueAge epoch valueEpoch ↔ (epoch - 2 - valueEpoch).toNat ≤ limit := Nat.not_lt

theorem peerTemperature_eq_some (e : RosterEntry) (j : Channel) (epoch : EpochNumber) (limit : Nat) (v : Int) :
    peerTemperature e j epoch limit = some v ↔
      (e.presence = .present ∨ e.presence = .missed) ∧
      ∃ before r after, e.temps = before ++ r :: after ∧ (∀ y ∈ before, y.index ≠ j) ∧ r.index = j ∧ r.kind = .temp ∧
        r.quality ≠ .fault ∧ r.quality ≠ .warming ∧ (epoch - 2 - r.valueEpoch).toNat ≤ limit ∧ r.value = some v := by
  have hpresence : ¬ (e.presence = .unseen ∨ e.presence = .gone) ↔ e.presence = .present ∨ e.presence = .missed := by
    cases e.presence <;> decide
  have hrecord : peerTemperature e j epoch limit = some v ↔ (e.presence = .present ∨ e.presence = .missed) ∧
      ∃ r, (e.temps.find? fun r => decide (r.index = j)) = some r ∧
        (r.kind = .temp ∧ r.quality ≠ .fault ∧ r.quality ≠ .warming ∧ (epoch - 2 - r.valueEpoch).toNat ≤ limit) ∧ r.value = some v := by
    unfold peerTemperature
    rw [← hpresence]
    split
    next h => exact ⟨nofun, fun hv => absurd h hv.1⟩
    next h =>
      rw [and_iff_right h]
      cases e.temps.find? fun r => decide (r.index = j) with
      | none => exact ⟨nofun, nofun⟩
      | some r =>
        have husable : ¬ (r.kind ≠ .temp ∨ r.quality = .fault ∨ r.quality = .warming ∨ limit < valueAge epoch r.valueEpoch) ↔
            r.kind = .temp ∧ r.quality ≠ .fault ∧ r.quality ≠ .warming ∧ (epoch - 2 - r.valueEpoch).toNat ≤ limit := by
          rw [not_or, not_or, not_or, not_not, valueAge_le_iff]
        simp only [Option.some.injEq, exists_eq_left', ← husable]
        split
        next hbad => exact ⟨nofun, fun hv => absurd hbad hv.1⟩
        next hgood => exact (and_iff_right hgood).symm
  rw [hrecord]
  refine and_congr_right' ?_
  simp only [List.find?_eq_some_iff_append, decide_eq_true_iff, Bool.not_eq_true', decide_eq_false_iff_not]
  constructor
  · rintro ⟨r, ⟨hindex, before, after, htemps, hbefore⟩, ⟨hkind, hfault, hwarming, hage⟩, hvalue⟩
    exact ⟨before, r, after, htemps, hbefore, hindex, hkind, hfault, hwarming, hage, hvalue⟩
  · rintro ⟨before, r, after, htemps, hbefore, hindex, hkind, hfault, hwarming, hage, hvalue⟩
    exact ⟨r, ⟨hindex, before, after, htemps, hbefore⟩, ⟨hkind, hfault, hwarming, hage⟩, hvalue⟩

/-! ### The row that then is the last closed one -/

theorem State.hutAttended_boundary (s : State) (temp : Int) :
    (s.countedBoundary temp).hutAttended = true ↔ ∃ r rest, s.table.rows = r :: rest ∧ r.summaryOr.getLsbD 0 = true := by
  rw [State.hutAttended, EpochTable.closedRows, State.countedBoundary_rows]
  cases s.table.rows with
  | nil => simp
  | cons r rest => simp [Row.attended]

theorem State.countedBoundary_corr (s : State) (temp : Int) (i : Channel) : (s.countedBoundary temp).corr[i] =
    s.corr[i].boundary s.setup.channels[i] (s.countedBoundary temp).dec[i].value
      (sourceTemperature s.setup.channels[i] (s.countedBoundary temp).dec s.member.roster (s.countedBoundary temp).tb.epochNumber)
      (s.countedBoundary temp).hutAttended := by
  rw [State.countedBoundary_tb]
  exact State.blocksAtBoundary_corr_get _ _ _ _

/-- GLIDING and STALE_TEMP, by their bits. -/
theorem State.holding_correction_bits (s : State) :
    s.holding.getLsbD 7 = s.glidingHolds ∧ s.holding.getLsbD 8 = s.staleTempHolds := by
  unfold State.holding
  generalize s.saturatedHolds = saturated, s.warmingHolds = warming, s.glidingHolds = gliding, s.staleTempHolds = stale,
    s.attendedHolds = attended, s.check.drift = drift, s.chainLostHolds = lost, s.setupFaultHolds = fault
  revert saturated warming gliding stale attended drift lost fault
  decide

theorem State.glidingHolds_iff (s : State) : s.glidingHolds = true ↔ ∃ j : Channel, s.corr[j].glide ≠ none := by
  rw [State.glidingHolds, anyChannel_eq_true_iff]
  simp only [Option.isSome_iff_ne_none]

theorem State.staleTempHolds_iff (s : State) : s.staleTempHolds = true ↔ ∃ j : Channel, s.corr[j].freeze = .stale := by
  rw [State.staleTempHolds, anyChannel_eq_true_iff]
  simp only [beq_iff_eq]

/-! ### The statement -/

/-- Settles O39: the bin decision, the corrected value, and the treatment of every channel at an own boundary. -/
theorem binDecisionAndCorrection : Obligations.BinDecisionAndCorrection := by
  refine ⟨fun x c v temp attended hfield hsource hsound hsetup => ⟨_, rfl, ?_⟩,
    fun x c v temp attended hfield hsource => ?_, fun x c v temp attended hkind => ?_, fun x c temp attended => rfl,
    fun rows t r hrows _ hr => hr ▸ rowContaining_spec t hrows, fun s temp i hrunning => ?_⟩
  · have hmoved (h : x.snapped = true) := CorrChannel.decideBin_snapped (x := x) (temp := temp) (attended := attended) hsource h
    rw [x.boundary_field v temp attended hfield, correctedFigure_of_source _ hsource, limit32_eq]
    refine ⟨rfl, rfl, fun hwait hnone => ?_, fun t hwait htemp hout => ?_, fun hsnapped htemp => ?_, fun t hsnapped htemp hin => ?_,
      fun t hsnapped htemp hout => ?_, fun hsnapped hbin hlength => ?_, fun n hsnapped hbin hlength => ?_,
      fun hsnapped hbin hglide => ?_, fun g n hsnapped hbin hglide hlength => ?_⟩
    · rw [CorrChannel.decideBin_waiting hsource hwait hnone]
      exact ⟨rfl, hwait, rfl, rfl, rfl, rfl⟩
    · rw [htemp, hout, CorrChannel.decideBin_snap hsource hwait]
      exact ⟨rfl, rfl, rfl, rfl, rfl, rfl, rfl⟩
    · obtain ⟨freeze, r, mark, hdecision, hstale, -, -⟩ := hmoved hsnapped
      obtain ⟨rfl, rfl, rfl⟩ := hstale htemp
      rw [hdecision]
      exact ⟨CorrChannel.moveTo_keeps.1, CorrChannel.moveTo_keeps.2, rfl⟩
    · obtain ⟨freeze, r, mark, hdecision, -, hattended, -⟩ := hmoved hsnapped
      obtain ⟨rfl, rfl, rfl⟩ := hattended t htemp hin
      rw [hdecision]
      exact ⟨CorrChannel.moveTo_keeps.1, CorrChannel.moveTo_keeps.2, rfl⟩
    · obtain ⟨freeze, r, mark, hdecision, -, -, hselect⟩ := hmoved hsnapped
      obtain ⟨rfl, rfl, rfl⟩ := hselect t htemp hout
      rw [hdecision, ← selectRow_eq]
      exact ⟨CorrChannel.moveTo_keeps.2, rfl, CorrChannel.moveTo_keeps.1⟩
    · obtain ⟨freeze, r, mark, hdecision, -⟩ := hmoved hsnapped
      rw [hdecision] at hbin ⊢
      exact CorrChannel.moveTo_step hbin hlength
    · obtain ⟨freeze, r, mark, hdecision, -⟩ := hmoved hsnapped
      rw [hdecision] at hbin ⊢
      exact CorrChannel.moveTo_glide (hsetup.glide n hlength) hbin hlength
    · obtain ⟨freeze, r, mark, hdecision, -⟩ := hmoved hsnapped
      rw [hdecision] at hbin ⊢
      exact CorrChannel.moveTo_resting hbin hglide
    · obtain ⟨freeze, r, mark, hdecision, -⟩ := hmoved hsnapped
      rw [hdecision] at hbin ⊢
      exact CorrChannel.moveTo_gliding hbin hglide hlength
  · rw [x.boundary_field v temp attended hfield, CorrChannel.decideBin_without_source hsource, limit32_eq,
      correctedFigure_without_source _ hsource]
  · rw [x.boundary_temp v temp attended hkind, limit32_eq]
    refine ⟨rfl, fun hlow hhigh => ?_⟩
    rw [min_eq_right (by omega), max_eq_right (by omega)]
  · refine ⟨_, _, _, exec_ownBoundary_running s temp hrunning, s.countedBoundary_corr temp i, s.hutAttended_boundary temp,
      State.glidingHolds_iff _, fun hbefore hafter => ?_, State.staleTempHolds_iff _, fun hbefore hafter => ?_,
      fun j hj v => ?_, fun k j hj v => ?_⟩
    · exact State.latchFrom_rises ((State.holding_correction_bits _).1.trans hafter) ((State.holding_correction_bits _).1.trans hbefore)
    · exact State.latchFrom_rises ((State.holding_correction_bits _).2.trans hafter) ((State.holding_correction_bits _).2.trans hbefore)
    · rw [sourceTemperature, hj]
      exact localTemperature_eq_some _ _
    · rw [sourceTemperature, hj]
      exact peerTemperature_eq_some _ _ _ _ _

end Sys2Proof.Machine
end

section
/-! SUPPORT. The square root and the field check (R151 to R155). -/

namespace Sys2Proof.Machine

/-! ### The nearest square root (R153) -/

/-- From a lower bound of the root, the search ends at its integer part. -/
theorem sqrtFrom_spec (bits v r : Nat) (hlow : r * r ≤ v) (hhigh : v < (r + 2 ^ bits) * (r + 2 ^ bits)) :
    sqrtFrom bits v r * sqrtFrom bits v r ≤ v ∧ v < (sqrtFrom bits v r + 1) * (sqrtFrom bits v r + 1) := by
  induction bits generalizing r with
  | zero => exact ⟨hlow, hhigh⟩
  | succ b ih =>
    rw [sqrtFrom]
    split
    next hfits =>
      refine ih _ hfits ?_
      have hdouble : r + 2 ^ (b + 1) = r + 2 ^ b + 2 ^ b := by omega
      rw [← hdouble]
      exact hhigh
    next hover => exact ih _ hlow (Nat.not_le.mp hover)

theorem nearestSqrt_spec {v : Nat} (h : v < 2 ^ 66) :
    (nearestSqrt v = 0 ∨ (2 * (nearestSqrt v : Int) - 1) * (2 * nearestSqrt v - 1) < 4 * v) ∧
      4 * (v : Int) < (2 * nearestSqrt v + 1) * (2 * nearestSqrt v + 1) := by
  obtain ⟨hlow, hhigh⟩ := sqrtFrom_spec 33 v 0 (Nat.zero_le _) (by omega)
  unfold nearestSqrt
  dsimp only
  generalize sqrtFrom 33 v 0 = r at hlow hhigh
  split
  next hup =>
    push_cast
    constructor
    · right
      nlinarith
    · nlinarith
  next hdown =>
    have hdown' : v ≤ r * r + r := Nat.not_lt.mp hdown
    zify at hlow hdown'
    constructor
    · rcases Nat.eq_zero_or_pos r with hzero | hpos
      · exact Or.inl hzero
      · right
        nlinarith
    · nlinarith

/-! ### The tolerance counts (R154) -/

theorem outOfTolerance_iff (c : CheckSetup) (d : Int) : outOfTolerance c d = true ↔ (c.tolerance : Int) < |d - c.expected| := by
  refine decide_eq_true_iff.trans ?_
  rw [Int.abs_eq_natAbs]

section
variable (k : FieldCheck) {c : CheckSetup} {d : DeltaF}

theorem FieldCheck.close_out (h : (c.tolerance : Int) < |d.value - c.expected|) : k.close c (some d) =
    { outCount := min (k.outCount + 1) 255, inCount := 0
      drift := if k.drift then !decide (c.count ≤ 0) else decide (c.count ≤ min (k.outCount + 1) 255), last := some d } := by
  have hcount : (if k.outCount < 255 then k.outCount + 1 else 255) = min (k.outCount + 1) 255 := by
    split <;> omega
  rw [FieldCheck.close, (outOfTolerance_iff c d.value).mpr h, ← hcount]
  rfl

theorem FieldCheck.close_in (h : |d.value - c.expected| ≤ c.tolerance) : k.close c (some d) =
    { outCount := 0, inCount := min (k.inCount + 1) 255
      drift := if k.drift then !decide (c.count ≤ min (k.inCount + 1) 255) else decide (c.count ≤ 0), last := some d } := by
  have hcount : (if k.inCount < 255 then k.inCount + 1 else 255) = min (k.inCount + 1) 255 := by
    split <;> omega
  have hinside : outOfTolerance c d.value = false :=
    Bool.eq_false_iff.mpr fun hout => absurd ((outOfTolerance_iff c d.value).mp hout) (by omega)
  rw [FieldCheck.close, hinside, ← hcount]
  rfl

end

/-! ### The pair of a row (R151, R152) -/

/-- The first entry with a property is GOOD and carries the value. -/
theorem goodValue_find_eq_some (entries : List ChannelEntry) {p : ChannelEntry → Prop} [DecidablePred p] (v : Int) :
    goodValue (entries.find? fun e => decide (p e)) = some v ↔
      ∃ before e after, entries = before ++ e :: after ∧ (∀ y ∈ before, ¬p y) ∧ p e ∧ e.quality = .good ∧ e.value = some v := by
  have hvalue : goodValue (entries.find? fun e => decide (p e)) = some v ↔
      ∃ e, (entries.find? fun e => decide (p e)) = some e ∧ e.quality = .good ∧ e.value = some v := by
    unfold goodValue
    cases entries.find? fun e => decide (p e) with
    | none => exact ⟨nofun, nofun⟩
    | some e => simp
  rw [hvalue]
  simp only [List.find?_eq_some_iff_append, decide_eq_true_iff, Bool.not_eq_true', decide_eq_false_iff_not]
  constructor
  · rintro ⟨e, ⟨he, before, after, hentries, hbefore⟩, hquality, hv⟩
    exact ⟨before, e, after, hentries, hbefore, he, hquality, hv⟩
  · rintro ⟨before, e, after, hentries, hbefore, he, hquality, hv⟩
    exact ⟨e, ⟨he, before, after, hentries, hbefore⟩, hquality, hv⟩

theorem Row.reportOf_eq_some (r : Row) (k : Station) (x : Report) :
    r.reportOf k = some x ↔ r.cells[k].state = .received ∧ r.cells[k].report = some x := by
  rw [Row.reportOf, Cell.reportIn, Cell.received]
  simp

/-- The own report that a pair is taken from. -/
theorem Row.ownReceived_eq_some (r : Row) (own : Option Station) (x : Report) : r.ownReceived own = some x ↔
    ∃ k, own = some k ∧ r.cells[k].own = true ∧ r.cells[k].state = .received ∧ r.cells[k].report = some x := by
  cases own with
  | none => simp [Row.ownReceived]
  | some k =>
    simp only [Row.ownReceived, Option.some.injEq, exists_eq_left']
    split
    next h => exact (Row.reportOf_eq_some r k x).trans (and_iff_right h).symm
    next h => exact ⟨nofun, fun hx => absurd hx.1 h⟩

/-- The scalar of a pair: the own FIELD_F entry, or that of another station's report of the same epoch. -/
theorem Row.scalar_eq_some (r : Row) (own : Option Station) (mine : Report) (reference : Source) (x : Scalar) :
    r.scalar own mine reference = some x ↔
      (reference = .localChannel x.channel ∧ x.station = stationByte own ∧ mine.scalarValue x.channel = some x.value) ∨
        ∃ peer theirs, reference = .peer peer x.channel ∧ x.station = stationNumber peer ∧ r.reportOf peer = some theirs ∧
          theirs.epoch = mine.epoch ∧ theirs.scalarValue x.channel = some x.value := by
  obtain ⟨value, station, channel⟩ := x
  cases reference with
  | none => simp [Row.scalar]
  | localChannel c =>
    simp only [Row.scalar, Option.map_eq_some_iff, Scalar.mk.injEq]
    constructor
    · rintro ⟨v, hv, rfl, rfl, rfl⟩
      exact Or.inl ⟨rfl, rfl, hv⟩
    · rintro (⟨hchannel, rfl, hv⟩ | ⟨_, _, hpeer, -⟩)
      · obtain rfl := Source.localChannel.inj hchannel
        exact ⟨value, hv, rfl, rfl, rfl⟩
      · exact absurd hpeer nofun
  | peer k c =>
    simp only [reduceCtorEq, false_and, false_or, Source.peer.injEq]
    cases hreport : r.reportOf k with
    | none =>
      simp only [Row.scalar, hreport]
      refine ⟨nofun, ?_⟩
      rintro ⟨_, theirs, ⟨rfl, rfl⟩, -, htheirs, -⟩
      exact absurd (hreport.symm.trans htheirs) nofun
    | some theirs =>
      simp only [Row.scalar, hreport]
      constructor
      · intro h
        split at h
        next hepoch =>
          simp only [Option.map_eq_some_iff, Scalar.mk.injEq] at h
          obtain ⟨v, hv, rfl, rfl, rfl⟩ := h
          exact ⟨k, theirs, ⟨rfl, rfl⟩, rfl, hreport, hepoch, hv⟩
        next => exact absurd h nofun
      · rintro ⟨_, _, ⟨rfl, rfl⟩, rfl, htheirs, hepoch, hv⟩
        obtain rfl := Option.some.inj (hreport.symm.trans htheirs)
        rw [if_pos hepoch, hv]
        rfl

/-- A pair is evaluated when the row is not attended, its own report stands, and three components and a scalar are GOOD. -/
theorem Row.evaluate_eq_some (r : Row) (own : Option Station) (reference : Source) (d : DeltaF) : r.evaluate own reference = some d ↔
    r.attended = false ∧ ∃ mine x y z s, r.ownReceived own = some mine ∧ goodValue (mine.entryOfKind .fieldX) = some x ∧
      goodValue (mine.entryOfKind .fieldY) = some y ∧ goodValue (mine.entryOfKind .fieldZ) = some z ∧
      r.scalar own mine reference = some s ∧ d = { value := deltaF s.value x y z, station := s.station, channel := s.channel } := by
  unfold Row.evaluate
  split
  next h => simp [h]
  next h =>
    rw [and_iff_right (Bool.not_eq_true _ ▸ h)]
    cases hmine : r.ownReceived own with
    | none => simp
    | some mine =>
      dsimp only
      constructor
      · intro hd
        split at hd
        next x y z s hx hy hz hs => exact ⟨mine, x, y, z, s, rfl, hx, hy, hz, hs, (Option.some.inj hd).symm⟩
        next => exact absurd hd nofun
      · rintro ⟨mine', x, y, z, s, hmine', hx, hy, hz, hs, rfl⟩
        obtain rfl := Option.some.inj hmine'
        rw [hx, hy, hz, hs]

/-! ### The statement -/

/-- FIELD_DRIFT, by its bit. -/
theorem State.holding_drift_bit (s : State) : s.holding.getLsbD 10 = s.check.drift := by
  unfold State.holding
  generalize s.saturatedHolds = saturated, s.warmingHolds = warming, s.glidingHolds = gliding, s.staleTempHolds = stale,
    s.attendedHolds = attended, s.check.drift = drift, s.chainLostHolds = lost, s.setupFaultHolds = fault
  revert saturated warming gliding stale attended drift lost fault
  decide

theorem sumOfSquares_lt {x y z : Int} (hx : -2147483648 ≤ x ∧ x ≤ 2147483647) (hy : -2147483648 ≤ y ∧ y ≤ 2147483647)
    (hz : -2147483648 ≤ z ∧ z ≤ 2147483647) : 0 ≤ x * x + y * y + z * z ∧ x * x + y * y + z * z < 2 ^ 66 := by
  have hsquare {a : Int} (h : -2147483648 ≤ a ∧ a ≤ 2147483647) : 0 ≤ a * a ∧ a * a ≤ 2147483648 * 2147483648 :=
    ⟨mul_self_nonneg a, by nlinarith⟩
  have := hsquare hx
  have := hsquare hy
  have := hsquare hz
  omega

/-- Settles O41: ΔF, the tolerance counts, and the pair that a row evaluates. -/
theorem fieldCheckEvaluatesPairs : Obligations.FieldCheckEvaluatesPairs := by
  refine ⟨fun f x y z hx hx' hy hy' hz hz' => ?_, fun k c d => ⟨fun hout => ?_, fun hin => ?_, rfl, rfl⟩,
    fun r own reference d goodFirst hgood => ?_, fun s r ⟨hrunning, hactive⟩ hrow => ?_⟩
  · obtain ⟨hnonneg, hlt⟩ := sumOfSquares_lt ⟨hx, hx'⟩ ⟨hy, hy'⟩ ⟨hz, hz'⟩
    obtain ⟨hlow, hhigh⟩ := nearestSqrt_spec (v := (x * x + y * y + z * z).toNat) (by omega)
    rw [Int.toNat_of_nonneg hnonneg] at hlow hhigh
    refine ⟨nearestSqrt (x * x + y * y + z * z).toNat, Int.natCast_nonneg _, hlow.imp_left Int.natCast_eq_zero.mpr, hhigh, limit32_eq _⟩
  · rw [k.close_out hout]
    refine ⟨rfl, rfl, fun hdrift => ?_, fun hcount hdrift => ?_⟩
    · simp only [hdrift, Bool.false_eq_true, if_false]
    · simp only [hdrift, if_true, decide_eq_false (Nat.not_le.mpr hcount), Bool.not_false]
  · rw [k.close_in hin]
    refine ⟨rfl, rfl, fun hdrift => ?_, fun hcount hdrift => ?_⟩
    · simp only [hdrift, if_true]
    · simp only [hdrift, Bool.false_eq_true, if_false, decide_eq_false (Nat.not_le.mpr hcount)]
  · have hkind (entries : List ChannelEntry) (kind : ChannelKind) (v : Int) :
        goodValue (entries.find? fun e => decide (e.kind = kind)) = some v ↔ goodFirst entries (fun e => e.kind = kind) v := by
      rw [hgood]
      exact goodValue_find_eq_some entries v
    have hscalar (x : Report) (c : Channel) (v : Int) :
        x.scalarValue c = some v ↔ goodFirst x.entries (fun e => e.index = c ∧ e.kind = .fieldF) v := by
      rw [hgood, Report.scalarValue]
      simp only [← Bool.decide_and]
      exact goodValue_find_eq_some x.entries v
    rw [Row.evaluate_eq_some]
    simp only [Report.entryOfKind, hkind, Row.scalar_eq_some, hscalar, Row.ownReceived_eq_some, Row.reportOf_eq_some]
    refine and_congr_right' ⟨?_, ?_⟩
    · rintro ⟨mine, x, y, z, s, ⟨k, hown, hcell, hstate, hreport⟩, hx, hy, hz, hs, rfl⟩
      refine ⟨k, mine, x, y, z, s.value, hown, hcell, hstate, hreport, hx, hy, hz, rfl, ?_⟩
      rcases hs with ⟨hlocal, hstation, hv⟩ | ⟨peer, theirs, hpeer, hstation, ⟨hpeerState, hpeerReport⟩, hepoch, hv⟩
      · exact Or.inl ⟨hlocal, by rw [hstation, hown]; rfl, hv⟩
      · exact Or.inr ⟨peer, theirs, hpeer, hstation, hpeerState, hpeerReport, hepoch, hv⟩
    · rintro ⟨k, mine, x, y, z, v, hown, hcell, hstate, hreport, hx, hy, hz, hvalue, hs⟩
      refine ⟨mine, x, y, z, { value := v, station := d.station, channel := d.channel }, ⟨k, hown, hcell, hstate, hreport⟩, hx, hy, hz,
        ?_, ?_⟩
      · rcases hs with ⟨hlocal, hstation, hv⟩ | ⟨peer, theirs, hpeer, hstation, hpeerState, hpeerReport, hepoch, hv⟩
        · exact Or.inl ⟨hlocal, by rw [hstation, hown]; rfl, hv⟩
        · exact Or.inr ⟨peer, theirs, hpeer, hstation, ⟨hpeerState, hpeerReport⟩, hepoch, hv⟩
      · rw [← hvalue]
  · have hcheck : s.rowClosed.check = s.check.close s.setup.check (r.evaluate s.member.number s.setup.check.reference) := by
      rw [State.rowClosed_eq hactive hrow, State.closeBlocks_check_eq]
      rfl
    refine ⟨_, exec_rowClose_running hrunning, hcheck, fun hbefore hafter => ?_⟩
    exact State.latchFrom_rises ((State.holding_drift_bit _).trans hafter) ((State.holding_drift_bit _).trans hbefore)

end Sys2Proof.Machine
end
